-- ==== Sys2Proof/Word.lean ====
section
/-! DEFINITION. The word widths of the Pixel Packer (spec 00_scope.md R5, 10_state.md R20, 30_encoding.md R90). -/

namespace Sys2Proof

/-- A register, the DATA of a write, the `rdata` of a read: 32 bits (R5 "register width", R90). -/
abbrev Word := BitVec 32

/-- One transaction: 64 bits (R90). -/
abbrev TxnWord := BitVec 64

/-- The ADDR field: a 30-bit byte address within a space (R90). -/
abbrev Addr := BitVec 30

/-- One OUTBUF byte, or one accumulator (R44, R46). -/
abbrev Byte := BitVec 8

/-- A dimension or a position counter: DIM_BITS = 16 (R5, R27, R28, R43). -/
abbrev Dim := BitVec 16

/-- The packed colour key `r<<16 | g<<8 | b` (R5, R38, R93). -/
abbrev Key := BitVec 24

/-- A palette index or a colour code: 3 bits (R92, R113). -/
abbrev Code := BitVec 3

end Sys2Proof
end

