-- ==== Sys2Proof/Config.lean ====
section
/-! DEFINITION. What an implementation fixes, and the values the spec leaves free (00_scope.md R5, 70_reset_and_hazards.md
R240, 93_implementation_defined.md I6 and I11). Nothing here has a body a proof could evaluate. -/

namespace Sys2Proof

/-- The legal values of the parameter OUTBUF_BYTES: 0 ≤ OUTBUF_BYTES ≤ 2^30 (R5). -/
abbrev Capacity := Fin (2 ^ 30 + 1)

/-- The parameter OUTBUF_BYTES (R5, D6: OPEN). Log entry 1. -/
opaque Config.outbufBytes : Capacity

/-- The free value of OUTBUF byte `addr` after the `draw`-th reset: "a free draw, under no law, per byte" (R240). Log entry 2. -/
opaque Config.resetByte (draw addr : Nat) : Byte

end Sys2Proof
end

