-- ==== Sys2Proof/Syntax.lean ====
section
/-! DEFINITION. The syntax: the transaction format (30_encoding.md R90, R91), the registers by name (10_state.md R23) and the
38 operations of the opcode map (30_encoding.md R96, spec/opcode_table.json). -/

namespace Sys2Proof

/-- A transaction word taken apart into the fields of R90. -/
structure Txn where
  /-- [63] address space: `false` = REG, `true` = OUT. -/
  sp : Bool
  /-- [62] `false` = read, `true` = write. -/
  we : Bool
  /-- [61:32] byte address within the space. -/
  addr : Addr
  /-- [31:0] write data. -/
  data : Word
  deriving DecidableEq, Repr

/-- The registers of the REG space, by the names of R23. -/
inductive Reg where
  | ctrl | status | mode | width | height | planes | palLen | inten | outLen | errPos | errRgb | pos | acc | caps
  | pal (n : Code)
  | pixel | rowEnd | frameEnd
  deriving DecidableEq, Repr

/-- One constructor per row of spec/opcode_table.json. A write carries its DATA (R94), a palette operation n = ADDR[4:2]
(R92), an OUT operation its byte address (R91). A read carries no DATA: it is ignored when WE = 0 (R90; log entry 7). -/
inductive Instr where
  | wrCtrl (data : Word)
  | rdCtrl
  | rdStatus
  | wrStatus (data : Word)
  | wrMode (data : Word)
  | rdMode
  | wrWidth (data : Word)
  | rdWidth
  | wrHeight (data : Word)
  | rdHeight
  | wrPlanes (data : Word)
  | rdPlanes
  | wrPalLen (data : Word)
  | rdPalLen
  | wrInten (data : Word)
  | rdInten
  | rdOutLen
  | wrOutLen (data : Word)
  | rdErrPos
  | wrErrPos (data : Word)
  | rdErrRgb
  | wrErrRgb (data : Word)
  | rdPos
  | wrPos (data : Word)
  | rdAcc
  | wrAcc (data : Word)
  | rdCaps
  | wrCaps (data : Word)
  | wrPal (n : Code) (data : Word)
  | rdPal (n : Code)
  | wrPixel (data : Word)
  | rdPixel
  | wrRowEnd (data : Word)
  | rdRowEnd
  | wrFrameEnd (data : Word)
  | rdFrameEnd
  | rdOut (a : Addr)
  | wrOut (a : Addr) (data : Word)
  deriving DecidableEq, Repr

end Sys2Proof
end

