-- ==== Sys2Proof/WellFormed.lean ====
section
/-! DEFINITION. Which transactions are operations of the opcode map (30_encoding.md R92, R97). The operands of an `Instr` are
bit vectors of the widths the encoding gives them (n is 3 bits, a is 30, DATA is 32), so every term of `Instr` is well formed
and no check on one is left to make; what can be ill formed is the transaction, and a REG transaction can be so in three ways.
These checks are written from R97's list of reserved accesses; the decoder is written from R102's procedure. -/

namespace Sys2Proof

/-- R97, first item: the address lies within the 256 bytes of REG space (ADDR[29:8] = 0). -/
def Txn.inRegSpace (t : Txn) : Bool := t.addr.extractLsb' 8 22 == 0

/-- R97, second item, and R75: the REG address is word-aligned (ADDR[1:0] = 0). -/
def Txn.aligned (t : Txn) : Bool := t.addr.extractLsb' 0 2 == 0

/-- R97, third item: the aligned offset is none of the reserved 0x38, 0x3C and 0x6C..0xFC. -/
def Txn.namesRegister (t : Txn) : Bool :=
  let off := (t.addr.extractLsb' 0 8).toNat
  off != 0x38 && off != 0x3C && decide (off < 0x6C)

/-- A transaction that is an operation of R96: any OUT transaction, and a REG transaction that selects a register (R92). -/
def Txn.wellFormed (t : Txn) : Bool :=
  t.sp || (t.inRegSpace && t.aligned && t.namesRegister)

end Sys2Proof
end

