-- ==== Sys2Proof/Decode.lean ====
section
/-! DEFINITION. Decoding and encoding of transaction words (30_encoding.md R90-R102): the decoder after R102's procedure and the
offsets of 10_state.md R23, the encoder after the match column of R96, and the assembler syntax of R100 and R101. -/

namespace Sys2Proof

/-! ## The format -/

/-- The fields of a transaction word (R90, R91). -/
def Txn.ofWord (T : TxnWord) : Txn where
  sp := T.getLsbD 63
  we := T.getLsbD 62
  addr := T.extractLsb' 32 30
  data := T.extractLsb' 0 32

/-- `T = SP<<63 | WE<<62 | ADDR<<32 | DATA` (R90). -/
def Txn.word (t : Txn) : TxnWord :=
  BitVec.ofBool t.sp ++ BitVec.ofBool t.we ++ t.addr ++ t.data

/-! ## The register map of R23 -/

/-- The byte offset of a register (R23); PALn is at 0x40 + 4*n. -/
def Reg.offset : Reg → Byte
  | .ctrl => 0x00
  | .status => 0x04
  | .mode => 0x08
  | .width => 0x0C
  | .height => 0x10
  | .planes => 0x14
  | .palLen => 0x18
  | .inten => 0x1C
  | .outLen => 0x20
  | .errPos => 0x24
  | .errRgb => 0x28
  | .pos => 0x2C
  | .acc => 0x30
  | .caps => 0x34
  | .pal n => 0b010#3 ++ n ++ 0b00#2
  | .pixel => 0x60
  | .rowEnd => 0x64
  | .frameEnd => 0x68

/-- The registers other than PALn, in the order of R23. -/
def Reg.fixed : List Reg :=
  [.ctrl, .status, .mode, .width, .height, .planes, .palLen, .inten, .outLen, .errPos, .errRgb, .pos, .acc, .caps,
   .pixel, .rowEnd, .frameEnd]

/-- The register at an offset, if any: PALn where `off` is in 0x40..0x5C and aligned (R92, R102), else by R23. -/
def Reg.ofOffset (off : Byte) : Option Reg :=
  if off.extractLsb' 5 3 = 0b010#3 ∧ off.extractLsb' 0 2 = 0#2 then some (.pal (off.extractLsb' 2 3))
  else Reg.fixed.find? (fun r => r.offset == off)

/-! ## The decoder -/

/-- A reserved access (R97), which is no row of the opcode map; the step performs it. -/
structure ReservedAccess where
  we : Bool
  addr : Addr
  data : Word
  deriving DecidableEq, Repr

/-- The (WE, register) row of R96. -/
def Reg.operation (r : Reg) (we : Bool) (data : Word) : Instr :=
  match r, we with
  | .ctrl, true => .wrCtrl data
  | .ctrl, false => .rdCtrl
  | .status, true => .wrStatus data
  | .status, false => .rdStatus
  | .mode, true => .wrMode data
  | .mode, false => .rdMode
  | .width, true => .wrWidth data
  | .width, false => .rdWidth
  | .height, true => .wrHeight data
  | .height, false => .rdHeight
  | .planes, true => .wrPlanes data
  | .planes, false => .rdPlanes
  | .palLen, true => .wrPalLen data
  | .palLen, false => .rdPalLen
  | .inten, true => .wrInten data
  | .inten, false => .rdInten
  | .outLen, true => .wrOutLen data
  | .outLen, false => .rdOutLen
  | .errPos, true => .wrErrPos data
  | .errPos, false => .rdErrPos
  | .errRgb, true => .wrErrRgb data
  | .errRgb, false => .rdErrRgb
  | .pos, true => .wrPos data
  | .pos, false => .rdPos
  | .acc, true => .wrAcc data
  | .acc, false => .rdAcc
  | .caps, true => .wrCaps data
  | .caps, false => .rdCaps
  | .pal n, true => .wrPal n data
  | .pal n, false => .rdPal n
  | .pixel, true => .wrPixel data
  | .pixel, false => .rdPixel
  | .rowEnd, true => .wrRowEnd data
  | .rowEnd, false => .rdRowEnd
  | .frameEnd, true => .wrFrameEnd data
  | .frameEnd, false => .rdFrameEnd

/-- R102 on the fields of a transaction. -/
def Txn.decode (t : Txn) : Except ReservedAccess Instr :=
  if t.sp then
    .ok (if t.we then .wrOut t.addr t.data else .rdOut t.addr)
  else if t.addr.extractLsb' 8 22 ≠ 0#22 ∨ t.addr.extractLsb' 0 2 ≠ 0#2 then
    .error ⟨t.we, t.addr, t.data⟩
  else
    match Reg.ofOffset (t.addr.extractLsb' 0 8) with
    | some r => .ok (r.operation t.we t.data)
    | none => .error ⟨t.we, t.addr, t.data⟩

/-- The decoder, total on all 2^64 words: one row of R96, or a reserved access by name (R97, R102). -/
def decode (T : TxnWord) : Except ReservedAccess Instr := (Txn.ofWord T).decode

/-- The instruction the decoder reads from an instruction of `nbits` bits `w` (the host's entry; every row has 64 bits, R99). -/
def decodeTableWord (nbits w : Nat) : Option Instr :=
  match decode (BitVec.ofNat 64 (w % 2 ^ nbits)) with
  | .ok i => some i
  | .error _ => none

/-! ## The opcode map and the encoder -/

/-- A row of R96. -/
structure Row where
  mnemonic : String
  pattern : TxnWord
  mask : TxnWord
  deriving DecidableEq, Repr

/-- A REG row: mask 0xFFFFFFFF00000000 (R96). -/
def Row.reg (mnemonic : String) (pattern : TxnWord) : Row := ⟨mnemonic, pattern, 0xFFFFFFFF00000000⟩

/-- A PAL row: mask 0xFFFFFFE300000000, ADDR[4:2] free (R96). -/
def Row.pal (mnemonic : String) (pattern : TxnWord) : Row := ⟨mnemonic, pattern, 0xFFFFFFE300000000⟩

/-- An OUT row: mask 0xC000000000000000 (R96). -/
def Row.out (mnemonic : String) (pattern : TxnWord) : Row := ⟨mnemonic, pattern, 0xC000000000000000⟩

/-- The row of R96 an operation stands in. -/
def Instr.row : Instr → Row
  | .wrCtrl _ => Row.reg "WR_CTRL" 0x4000000000000000
  | .rdCtrl => Row.reg "RD_CTRL" 0x0000000000000000
  | .rdStatus => Row.reg "RD_STATUS" 0x0000000400000000
  | .wrStatus _ => Row.reg "WR_STATUS" 0x4000000400000000
  | .wrMode _ => Row.reg "WR_MODE" 0x4000000800000000
  | .rdMode => Row.reg "RD_MODE" 0x0000000800000000
  | .wrWidth _ => Row.reg "WR_WIDTH" 0x4000000C00000000
  | .rdWidth => Row.reg "RD_WIDTH" 0x0000000C00000000
  | .wrHeight _ => Row.reg "WR_HEIGHT" 0x4000001000000000
  | .rdHeight => Row.reg "RD_HEIGHT" 0x0000001000000000
  | .wrPlanes _ => Row.reg "WR_PLANES" 0x4000001400000000
  | .rdPlanes => Row.reg "RD_PLANES" 0x0000001400000000
  | .wrPalLen _ => Row.reg "WR_PAL_LEN" 0x4000001800000000
  | .rdPalLen => Row.reg "RD_PAL_LEN" 0x0000001800000000
  | .wrInten _ => Row.reg "WR_INTEN" 0x4000001C00000000
  | .rdInten => Row.reg "RD_INTEN" 0x0000001C00000000
  | .rdOutLen => Row.reg "RD_OUT_LEN" 0x0000002000000000
  | .wrOutLen _ => Row.reg "WR_OUT_LEN" 0x4000002000000000
  | .rdErrPos => Row.reg "RD_ERR_POS" 0x0000002400000000
  | .wrErrPos _ => Row.reg "WR_ERR_POS" 0x4000002400000000
  | .rdErrRgb => Row.reg "RD_ERR_RGB" 0x0000002800000000
  | .wrErrRgb _ => Row.reg "WR_ERR_RGB" 0x4000002800000000
  | .rdPos => Row.reg "RD_POS" 0x0000002C00000000
  | .wrPos _ => Row.reg "WR_POS" 0x4000002C00000000
  | .rdAcc => Row.reg "RD_ACC" 0x0000003000000000
  | .wrAcc _ => Row.reg "WR_ACC" 0x4000003000000000
  | .rdCaps => Row.reg "RD_CAPS" 0x0000003400000000
  | .wrCaps _ => Row.reg "WR_CAPS" 0x4000003400000000
  | .wrPal _ _ => Row.pal "WR_PAL" 0x4000004000000000
  | .rdPal _ => Row.pal "RD_PAL" 0x0000004000000000
  | .wrPixel _ => Row.reg "WR_PIXEL" 0x4000006000000000
  | .rdPixel => Row.reg "RD_PIXEL" 0x0000006000000000
  | .wrRowEnd _ => Row.reg "WR_ROW_END" 0x4000006400000000
  | .rdRowEnd => Row.reg "RD_ROW_END" 0x0000006400000000
  | .wrFrameEnd _ => Row.reg "WR_FRAME_END" 0x4000006800000000
  | .rdFrameEnd => Row.reg "RD_FRAME_END" 0x0000006800000000
  | .rdOut _ => Row.out "RD_OUT" 0x8000000000000000
  | .wrOut _ _ => Row.out "WR_OUT" 0xC000000000000000

/-- The operations of R96 in its order, operands at 0. -/
def opcodeOperations : List Instr :=
  [.wrCtrl 0, .rdCtrl, .rdStatus, .wrStatus 0, .wrMode 0, .rdMode, .wrWidth 0, .rdWidth, .wrHeight 0, .rdHeight,
   .wrPlanes 0, .rdPlanes, .wrPalLen 0, .rdPalLen, .wrInten 0, .rdInten, .rdOutLen, .wrOutLen 0, .rdErrPos, .wrErrPos 0]
  ++ [.rdErrRgb, .wrErrRgb 0, .rdPos, .wrPos 0, .rdAcc, .wrAcc 0, .rdCaps, .wrCaps 0, .wrPal 0 0, .rdPal 0,
   .wrPixel 0, .rdPixel, .wrRowEnd 0, .rdRowEnd, .wrFrameEnd 0, .rdFrameEnd, .rdOut 0, .wrOut 0 0]

/-- The opcode map of R96. -/
def opcodeTable : List Row := opcodeOperations.map Instr.row

/-- "A word T selects a row when `T & mask = match`" (R96). -/
def Row.selectedBy (r : Row) (T : TxnWord) : Bool := T &&& r.mask == r.pattern

/-- The operand bits of an operation, where R90 and R92 put them: DATA in [31:0], n in [36:34], a in [61:32]. -/
def Instr.operandBits : Instr → TxnWord
  | .wrCtrl d | .wrStatus d | .wrMode d | .wrWidth d | .wrHeight d | .wrPlanes d | .wrPalLen d | .wrInten d
  | .wrOutLen d | .wrErrPos d | .wrErrRgb d | .wrPos d | .wrAcc d | .wrCaps d
  | .wrPixel d | .wrRowEnd d | .wrFrameEnd d => d.setWidth 64
  | .rdCtrl | .rdStatus | .rdMode | .rdWidth | .rdHeight | .rdPlanes | .rdPalLen | .rdInten
  | .rdOutLen | .rdErrPos | .rdErrRgb | .rdPos | .rdAcc | .rdCaps
  | .rdPixel | .rdRowEnd | .rdFrameEnd => 0
  | .wrPal n d => (n.setWidth 64 <<< 34) ||| d.setWidth 64
  | .rdPal n => n.setWidth 64 <<< 34
  | .rdOut a => a.setWidth 64 <<< 32
  | .wrOut a d => (a.setWidth 64 <<< 32) ||| d.setWidth 64

/-- The encoder: an operation's match word of R96 with its operand bits; a read's DATA is 0 (R100). -/
def encode (i : Instr) : TxnWord := i.row.pattern ||| i.operandBits

/-! ## Assembler syntax (R100) and pseudo-instructions (R101) -/

/-- A line of a host program (R100). -/
inductive Asm where
  | wr (r : Reg) (imm : Word)
  | rd (r : Reg)
  | rdout (a : Addr)
  | wrout (a : Addr) (imm : Word)
  | rdraw (a : Addr)
  | wrraw (a : Addr) (imm : Word)
  deriving DecidableEq, Repr

/-- The transaction column of R100. -/
def Asm.txn : Asm → Txn
  | .wr r imm => ⟨false, true, r.offset.setWidth 30, imm⟩
  | .rd r => ⟨false, false, r.offset.setWidth 30, 0⟩
  | .rdout a => ⟨true, false, a, 0⟩
  | .wrout a imm => ⟨true, true, a, imm⟩
  | .rdraw a => ⟨false, false, a, 0⟩
  | .wrraw a imm => ⟨false, true, a, imm⟩

/-- The transaction word of a line. -/
def Asm.word (l : Asm) : TxnWord := l.txn.word

/-- The pseudo-instructions of R101. -/
inductive Pseudo where
  | start | abort | mode7c | modeRwb | modeRwb4
  | pal (n : Code) (r g b : Byte)
  | pix (r g b : Byte)
  | pixa (r g b a : Byte)
  | eol | eof
  deriving DecidableEq, Repr

/-- The expansion column of R101: exactly one line each. -/
def Pseudo.expand : Pseudo → Asm
  | .start => .wr .ctrl 0x1
  | .abort => .wr .ctrl 0x2
  | .mode7c => .wr .mode 0
  | .modeRwb => .wr .mode 1
  | .modeRwb4 => .wr .mode 2
  | .pal n r g b => .wr (.pal n) (0#8 ++ r ++ g ++ b)
  | .pix r g b => .wr .pixel (r ++ g ++ b ++ 0xFF#8)
  | .pixa r g b a => .wr .pixel (r ++ g ++ b ++ a)
  | .eol => .wr .rowEnd 0
  | .eof => .wr .frameEnd 0

end Sys2Proof
end

