-- ==== Sys2Proof/Machine/State.lean ====
section
/-! DEFINITION. The state of the Pixel Packer as plain data (10_state.md R20, R42-R46), its reset (R49, 70_reset_and_hazards.md
R240), and the reasons a step can stop. -/

namespace Sys2Proof.Machine

/-- STATE, the frame state (R42). -/
inductive FrameState where
  /-- After reset and after ABORT. -/
  | idle
  /-- A START passed its checks; the stream is accepted. -/
  | busy
  /-- An accepted FRAME_END completed the frame. -/
  | done
  /-- An error was raised; no result exists. -/
  | error
  deriving DecidableEq, Repr

/-- MODE (R2, R26). The value 3 is no constructor: MODE cannot hold it (R137; log entry 9). -/
inductive Mode where
  | sevenColour
  | rwb
  | rwb4
  deriving DecidableEq, Repr

/-- ERR_KIND (R25, R210). -/
inductive ErrKind where
  | none
  | invalidPalette
  | invalidImageShape
  | unknownColor
  deriving DecidableEq, Repr

/-- ERR_DETAIL (R211); `none` is the 0 of kinds 1 and 3 and of no error. -/
inductive ErrDetail where
  | none
  | widthAlign
  | capacity
  | rowTooLong
  | rowTooShort
  | tooManyRows
  | tooFewRows
  deriving DecidableEq, Repr

/-- What an OUTBUF byte that no cell lists holds: the free draw of a reset (R240), or the 0x00 of an accepted START (R131). -/
inductive Fill where
  | unspecified (draw : Nat)
  | zeroed
  deriving DecidableEq, Repr

/-- The contents of OUTBUF (R46): the cells listed, and the fill for every other byte. Log entry 3. -/
structure Memory where
  fill : Fill
  cells : List Host.Cell
  deriving DecidableEq, Repr

/-- What reaches the block from outside, between two steps: a host transaction word (R90) or the platform's reset (R240). -/
inductive PortEvent where
  | txn (T : TxnWord)
  | reset
  deriving DecidableEq, Repr

/-- The complete state of the block (R20), and after it the model's own fields. -/
structure State where
  /-- STATE (R42). -/
  frame : FrameState
  /-- DROPPED, sticky (R25, R135). -/
  dropped : Bool
  /-- ERR_KIND (R25, R210). -/
  errKind : ErrKind
  /-- ERR_DETAIL (R25, R211). -/
  errDetail : ErrDetail
  /-- MODE (R26). -/
  mode : Mode
  /-- WIDTH (R27). -/
  width : Dim
  /-- HEIGHT (R28). -/
  height : Dim
  /-- PLANES (R29). -/
  planes : Word
  /-- PAL_LEN (R30). -/
  palLen : Byte
  /-- PAL[0..7] (R38); PAL_ENTRIES = 8 (R5). -/
  pal : Vector Key 8
  /-- INTEN: bit 0 DONE_IE, bit 1 ERR_IE (R31). -/
  inten : BitVec 2
  /-- OUT_LEN (R32). -/
  outLen : Word
  /-- ERR_X (R33). -/
  errX : Dim
  /-- ERR_Y (R33). -/
  errY : Dim
  /-- ERR_RGB (R34). -/
  errRgb : Key
  /-- X, the column of the next pixel (R43). -/
  x : Dim
  /-- Y, the current row (R43). -/
  y : Dim
  /-- ACC0, the accumulator of plane 0 (R44). -/
  acc0 : Byte
  /-- ACC1, the accumulator of plane 1 (R44). -/
  acc1 : Byte
  /-- OUTBUF (R46). -/
  outbuf : Memory
  /-- The model's own: the parameter OUTBUF_BYTES (R5). No step writes it. Log entry 1. -/
  outbufBytes : Capacity
  /-- The model's own: how many OUTBUF reset draws have been taken. Log entry 2. -/
  draws : Nat
  /-- The model's own: the read response of the transaction just performed, absent after a write (R8, R95). Log entry 5. -/
  rdata : Option Word
  /-- The model's own: what the host and the platform have issued and the block has not performed, oldest first (R79).
  Log entry 4. -/
  port : List PortEvent
  deriving DecidableEq, Repr

/-- A stop that is no behaviour of the block. -/
inductive Fault where
  /-- Raised by the output buffer writer inside a PIXEL, for a byte address at or above OUTBUF_BYTES, which the spec says does
  not exist (R46, R71). Safe: R185 has it that no such offset is ever written, and no reachable state raises it. Log entry 8. -/
  | outbufStore (addr : Nat)
  deriving DecidableEq, Repr

/-- A refusal to give an instruction a meaning. -/
inductive Refusal where
  /-- Raised by an arm of `exec` for an instruction without a meaning; no arm is left. Safe: nothing can be proved of the
  instruction. -/
  | notModelled (mnemonic : String)
  deriving DecidableEq, Repr

/-- Every element at the value of R49, for a block of capacity `cap` whose OUTBUF holds the free bytes of draw `draw` (R240). -/
def State.atReset (cap : Capacity) (draw : Nat) : State where
  frame := .idle
  dropped := false
  errKind := .none
  errDetail := .none
  mode := .sevenColour
  width := 0
  height := 0
  planes := 0
  palLen := 0
  pal := Vector.replicate 8 0
  inten := 0
  outLen := 0
  errX := 0
  errY := 0
  errRgb := 0
  x := 0
  y := 0
  acc0 := 0
  acc1 := 0
  outbuf := ⟨.unspecified draw, []⟩
  outbufBytes := cap
  draws := draw + 1
  rdata := none
  port := []

/-- The machine right after reset (R49, R240, R241), nothing issued to it yet. -/
def State.reset : State := State.atReset Config.outbufBytes 0

end Sys2Proof.Machine
end

