-- ==== Sys2Proof/Machine/Rom.lean ====
section
/-! DEFINITION. The palette lookup ROM: MPROM and FROM word by word, and their field reads (40_palette.md R112, R113; 10_state.md
R47). The literals are the source's, unaudited (D34; log entry 11). -/

namespace Sys2Proof.Machine

/-- The MODE field value of a mode (R2, R26). -/
def Mode.bits : Mode → BitVec 2
  | .sevenColour => 0
  | .rwb => 1
  | .rwb4 => 2

/-- The mode of a MODE field value; 3 is no mode (R98). -/
def Mode.ofBits (b : BitVec 2) : Option Mode :=
  if b = 0 then some .sevenColour
  else if b = 1 then some .rwb
  else if b = 2 then some .rwb4
  else none

/-- MPROM, 4 words addressed by MODE (R112). -/
def mpromWords : List (BitVec 16) := [0x0917, 0x2063, 0x0913, 0x0000]

/-- FROM, 32 words addressed by {MODE, code} (R113), one line a mode. -/
def fromWords : List Byte :=
  [0x00, 0x01, 0x02, 0x03, 0x04, 0x05, 0x06, 0x00]
  ++ [0x00, 0x01, 0x10, 0x00, 0x00, 0x00, 0x00, 0x00]
  ++ [0x00, 0x03, 0x04, 0x00, 0x00, 0x00, 0x00, 0x00]
  ++ [0x00, 0x00, 0x00, 0x00, 0x00, 0x00, 0x00, 0x00]

/-- The MPROM word of a mode (R112). -/
def Mode.mprom (m : Mode) : BitVec 16 := mpromWords.getD m.bits.toNat 0

/-- `ROM.N(m)`, the palette size: MPROM [3:0] (R112). -/
def Mode.romN (m : Mode) : Nat := (m.mprom.extractLsb' 0 4).toNat

/-- `ROM.NPLANES(m)`: MPROM [5:4] (R112). -/
def Mode.romPlanes (m : Mode) : Nat := (m.mprom.extractLsb' 4 2).toNat

/-- `ROM.FB(m)`, field bits per pixel per plane: MPROM [9:6] (R112). -/
def Mode.romFb (m : Mode) : Nat := (m.mprom.extractLsb' 6 4).toNat

/-- `ROM.PACK(m)`, pixels per byte: MPROM [13:10] (R112). -/
def Mode.romPack (m : Mode) : Nat := (m.mprom.extractLsb' 10 4).toNat

/-- The FROM word at {MODE[1:0], code[2:0]} (R113). -/
def Mode.fromWord (m : Mode) (c : Code) : Byte := fromWords.getD (m.bits ++ c).toNat 0

/-- `ROM.FIELD(m, c, 0)`: FROM [3:0] (R113). -/
def Mode.romField0 (m : Mode) (c : Code) : BitVec 4 := (m.fromWord c).extractLsb' 0 4

/-- `ROM.FIELD(m, c, 1)`: FROM [7:4] (R113). -/
def Mode.romField1 (m : Mode) (c : Code) : BitVec 4 := (m.fromWord c).extractLsb' 4 4

end Sys2Proof.Machine
end

