-- ==== Sys2Proof/Machine/Operands.lean ====
section
/-! DEFINITION. The operand forms: the fields of the DATA of a write (30_encoding.md R93, R94; 10_state.md R24-R38). -/

namespace Sys2Proof.Machine

/-- CTRL.START = DATA[0] (R24, R130). -/
def startBit (data : Word) : Bool := data.getLsbD 0

/-- CTRL.ABORT = DATA[1] (R24, R130). -/
def abortBit (data : Word) : Bool := data.getLsbD 1

/-- The MODE field DATA[1:0] (R26, R137); none where it is 3. -/
def modeField (data : Word) : Option Mode := Mode.ofBits (data.extractLsb' 0 2)

/-- The WIDTH or HEIGHT field DATA[15:0] (R27, R28, R138, R139). -/
def dimField (data : Word) : Dim := data.extractLsb' 0 16

/-- The PAL_LEN field DATA[7:0] (R30, R119). -/
def palLenField (data : Word) : Byte := data.extractLsb' 0 8

/-- The INTEN field DATA[1:0] (R31, R142). -/
def intenField (data : Word) : BitVec 2 := data.extractLsb' 0 2

/-- The colour of a palette register: DATA[23:0] (R38, R117). -/
def colourField (data : Word) : Key := data.extractLsb' 0 24

/-- The colour key of a pixel: DATA[31:8]; the alpha byte DATA[7:0] takes no part (R93, R114). -/
def pixelKey (data : Word) : Key := data.extractLsb' 8 24

end Sys2Proof.Machine
end

