-- ==== Sys2Proof/Machine/Flags.lean ====
section
/-! DEFINITION. The status fields and the interrupt level (10_state.md R25, R31, R42, R45; 60_exceptions.md R210, R211, R218). -/

namespace Sys2Proof.Machine

/-- STATUS.STATE (R25, R42). -/
def FrameState.code : FrameState → BitVec 2
  | .idle => 0
  | .busy => 1
  | .done => 2
  | .error => 3

/-- The ERR_KIND number (R210). -/
def ErrKind.code : ErrKind → BitVec 4
  | .none => 0
  | .invalidPalette => 1
  | .invalidImageShape => 2
  | .unknownColor => 3

/-- The ERR_DETAIL number (R211). -/
def ErrDetail.code : ErrDetail → BitVec 4
  | .none => 0
  | .widthAlign => 1
  | .capacity => 2
  | .rowTooLong => 3
  | .rowTooShort => 4
  | .tooManyRows => 5
  | .tooFewRows => 6

/-- INTEN.DONE_IE, bit 0 (R31). -/
def State.doneIe (s : State) : Bool := s.inten.getLsbD 0

/-- INTEN.ERR_IE, bit 1 (R31). -/
def State.errIe (s : State) : Bool := s.inten.getLsbD 1

/-- The level of the output `irq`, which STATUS.IRQ reads (R45). -/
def State.irq (s : State) : Bool :=
  (s.frame == .done && s.doneIe) || (s.frame == .error && s.errIe)

/-- STATUS = {20'b0, ERR_DETAIL, ERR_KIND, IRQ, DROPPED, STATE} (R25, R145). -/
def State.statusWord (s : State) : Word :=
  0#20 ++ s.errDetail.code ++ s.errKind.code ++ BitVec.ofBool s.irq ++ BitVec.ofBool s.dropped ++ s.frame.code

end Sys2Proof.Machine
end

