-- ==== Sys2Proof/Machine/Ops.lean ====
section
/-! DEFINITION. The shared operations: OUTBUF as memory, the read response, dropped writes, error entry and exit, frame start,
classification, accumulation and the output buffer writer, the register read, reserved accesses and the reset event. -/

namespace Sys2Proof.Machine

/-! ## OUTBUF (R46, R71, R131, R185) -/

/-- What an unlisted byte reads as: 0x00 after the clearing of a START (R131), the free draw after a reset (R240). Log entry 2. -/
def Fill.byte : Fill → Nat → Byte
  | .zeroed, _ => 0
  | .unspecified draw, a => Config.resetByte draw a

/-- The byte a cell lists at `a`, if any. -/
def cellAt (a : Nat) : List Host.Cell → Option Byte
  | [] => none
  | c :: cs => if c.1 = a then some c.2 else cellAt a cs

/-- The cells without any at `a`. -/
def dropCell (a : Nat) : List Host.Cell → List Host.Cell
  | [] => []
  | c :: cs => if c.1 = a then dropCell a cs else c :: dropCell a cs

/-- The cells with `v` at `a`, in rising order of address, where none is at `a` yet. -/
def insertCell (a : Nat) (v : Byte) : List Host.Cell → List Host.Cell
  | [] => [(a, v)]
  | c :: cs => if a < c.1 then (a, v) :: c :: cs else c :: insertCell a v cs

/-- One byte of OUTBUF: `MemRead(a, 1)` (R7). -/
def Memory.read (m : Memory) (a : Nat) : Byte := (cellAt a m.cells).getD (m.fill.byte a)

/-- One byte stored: `MemWrite(a, 1, v)` (R7). Storing what an unlisted byte reads as leaves no cell. -/
def Memory.write (m : Memory) (a : Nat) (v : Byte) : Memory where
  fill := m.fill
  cells := if v = m.fill.byte a then dropCell a m.cells else insertCell a v (dropCell a m.cells)

/-- Every byte 0x00 (R131, "zero-initialized"). -/
def Memory.cleared : Memory := ⟨.zeroed, []⟩

/-- Addresses strictly rising, all at or above `lo`, and no cell equal to what an unlisted byte reads as. -/
def cellsWf (f : Fill) (lo : Nat) : List Host.Cell → Bool
  | [] => true
  | c :: cs => decide (lo ≤ c.1) && decide (c.2 ≠ f.byte c.1) && cellsWf f (c.1 + 1) cs

/-- The canonical form of OUTBUF (log entry 3). -/
def Memory.wf (m : Memory) : Bool := cellsWf m.fill 0 m.cells

/-! ## Responses and dropped writes -/

/-- `rdata <- v` (R7, R95). -/
def State.respond (s : State) (v : Word) : State := { s with rdata := some v }

/-- `drop()`: DROPPED ← 1 and no other change (R135). -/
def State.drop (s : State) : State := { s with dropped := true }

/-- `cfg_write(effect)`, the gate of every configuration register write (R48, R136). -/
def State.cfgWrite (s : State) (effect : State → State) : State :=
  if s.frame = .busy then s.drop else effect s

/-! ## The writes of single registers -/

def State.setMode (s : State) (m : Mode) : State := { s with mode := m }
def State.setWidth (s : State) (v : Dim) : State := { s with width := v }
def State.setHeight (s : State) (v : Dim) : State := { s with height := v }
def State.setPlanes (s : State) (v : Word) : State := { s with planes := v }
def State.setPalLen (s : State) (v : Byte) : State := { s with palLen := v }
def State.setInten (s : State) (v : BitVec 2) : State := { s with inten := v }

/-- PAL[n] (R38). -/
def State.palEntry (s : State) (n : Code) : Key := s.pal[n.toNat]'n.isLt

/-- PAL[n] <- v (R117). -/
def State.setPal (s : State) (n : Code) (v : Key) : State := { s with pal := s.pal.set n.toNat v n.isLt }

/-- `if DATA[1:0] != 3 then MODE <- DATA[1:0]` (R137). -/
def State.writeMode (s : State) (data : Word) : State :=
  match modeField data with
  | some m => s.setMode m
  | none => s

/-! ## Error entry (R215) and exit (R217) -/

/-- `raise Error(kind, detail, x, y, rgb)`, the one error entry (R215). It writes nothing else. -/
def State.raiseError (s : State) (kind : ErrKind) (detail : ErrDetail) (ex ey : Dim) (rgb : Key) : State :=
  { s with frame := .error, errKind := kind, errDetail := detail, errX := ex, errY := ey, errRgb := rgb, outLen := 0 }

/-- The bookkeeping that START and ABORT both clear first (R131, R132). -/
def State.clearFrame (s : State) : State :=
  { s with dropped := false, errKind := .none, errDetail := .none, errX := 0, errY := 0, errRgb := 0, x := 0, y := 0,
           acc0 := 0, acc1 := 0, outLen := 0 }

/-- `STATE <- v`. -/
def State.setFrame (s : State) (v : FrameState) : State := { s with frame := v }

/-- `abort()` (R132): leaves any state, ERROR among them (R217). -/
def State.abortFrame (s : State) : State := s.clearFrame.setFrame .idle

/-! ## Starting a frame (R131) -/

/-- `palette_ok(m)` (R121). -/
def State.paletteOk (s : State) : Bool := s.palLen.toNat == s.mode.romN

/-- WIDTH mod ROM.PACK(m) = 0 (R131). -/
def State.widthOk (s : State) : Bool := s.width.toNat % s.mode.romPack == 0

/-- PLANE_BYTES = (H * W) / PACK, exact natural arithmetic (R6, R74). -/
def State.planeBytes (s : State) : Nat := (s.height.toNat * s.width.toNat) / s.mode.romPack

/-- `len`: NPLANES * PLANE_BYTES (R74, R131). -/
def State.frameBytes (s : State) : Nat := s.mode.romPlanes * s.planeBytes

/-- The last three lines of `start()`: OUTBUF cleared, OUT_LEN ← len, STATE ← BUSY (R131). -/
def State.openFrame (s : State) (len : Nat) : State :=
  { s with outbuf := Memory.cleared, outLen := BitVec.ofNat 32 len, frame := .busy }

/-- `start()` (R131), its checks in the order of R213. It leaves ERROR, or enters it anew (R217). -/
def State.startFrame (s : State) : State :=
  let s := s.clearFrame
  if ¬ s.paletteOk then s.raiseError .invalidPalette .none 0 0 0
  else if ¬ s.widthOk then s.raiseError .invalidImageShape .widthAlign 0 0 0
  else if s.outbufBytes.val < s.frameBytes then s.raiseError .invalidImageShape .capacity 0 0 0
  else s.openFrame s.frameBytes

/-! ## Classification (R115, R116) -/

/-- The highest index below `n` whose entry equals `key`. -/
def lastMatch (pal : Code → Key) (key : Key) : Nat → Option Code
  | 0 => none
  | n + 1 => if pal (BitVec.ofNat 3 n) = key then some (BitVec.ofNat 3 n) else lastMatch pal key n

/-- `classify(key)`: exact equality of 24 bits with an entry below N; the highest index wins (R115, R116). -/
def State.classify (s : State) (key : Key) : Option Code := lastMatch s.palEntry key s.mode.romN

/-! ## The bit-field accumulator (R181) -/

/-- `trunc_8((ACC << fb) | field)` (R181). -/
def shiftIn (acc : Byte) (fb : Nat) (field : BitVec 4) : Byte := (acc <<< fb) ||| field.setWidth 8

/-- ACC0 after `accumulate(c)` (R181). -/
def State.nextAcc0 (s : State) (c : Code) : Byte := shiftIn s.acc0 s.mode.romFb (s.mode.romField0 c)

/-- ACC1 after `accumulate(c)`: written only in a mode of two planes (R181). -/
def State.nextAcc1 (s : State) (c : Code) : Byte :=
  if s.mode.romPlanes = 2 then shiftIn s.acc1 s.mode.romFb (s.mode.romField1 c) else s.acc1

/-- `accumulate(c)` (R181). -/
def State.accumulate (s : State) (c : Code) : State := { s with acc0 := s.nextAcc0 c, acc1 := s.nextAcc1 c }

/-! ## The output buffer writer (R185) -/

/-- `X mod ROM.PACK(MODE) = ROM.PACK(MODE) - 1`: the pixel at column X completes a byte (R180). -/
def State.completesByte (s : State) : Bool := s.x.toNat % s.mode.romPack == s.mode.romPack - 1

/-- `idx`: the offset in its plane of the byte of the pixel at (X, Y) (R185). -/
def State.byteIndex (s : State) : Nat := (s.y.toNat * s.width.toNat + s.x.toNat) / s.mode.romPack

/-- One store of the writer; an address at or above OUTBUF_BYTES does not exist (R46; log entry 8). -/
def State.storeOut (s : State) (a : Nat) (v : Byte) : Except Fault State :=
  if a < s.outbufBytes.val then .ok { s with outbuf := s.outbuf.write a v } else .error (.outbufStore a)

/-- `finalise()`: plane 0, then plane 1 in a mode of two planes (R185). -/
def State.finalise (s : State) : Except Fault State :=
  match s.storeOut s.byteIndex s.acc0 with
  | .error f => .error f
  | .ok s1 =>
    if s.mode.romPlanes = 2 then s1.storeOut (s.planeBytes + s.byteIndex) s.acc1 else .ok s1

/-- `X <- X + 1` (R180). -/
def State.advanceX (s : State) : State := { s with x := s.x + 1 }

/-- The last lines of WR_PIXEL, for a pixel of code `c` (R180): accumulate, finalise where a byte is complete, advance X. -/
def State.acceptPixel (s : State) (c : Code) : Host.Outcome State Fault Refusal :=
  let s1 := s.accumulate c
  if s1.completesByte then
    match s1.finalise with
    | .error f => .fault f
    | .ok s2 => .next s2.advanceX
  else .next s1.advanceX

/-- The effect of an accepted ROW_END (R190). -/
def State.endRow (s : State) : State := { s with y := s.y + 1, x := 0, acc0 := 0, acc1 := 0 }

/-! ## Register reads (R24-R41, R95) -/

/-- The value of a REG read, every undefined bit 0; a write-only register reads 0 (R95, R161). -/
def State.readReg (s : State) : Reg → Word
  | .ctrl => 0
  | .status => s.statusWord
  | .mode => s.mode.bits.setWidth 32
  | .width => s.width.setWidth 32
  | .height => s.height.setWidth 32
  | .planes => s.planes
  | .palLen => s.palLen.setWidth 32
  | .inten => s.inten.setWidth 32
  | .outLen => s.outLen
  | .errPos => s.errY ++ s.errX
  | .errRgb => s.errRgb.setWidth 32
  | .pos => s.y ++ s.x
  | .acc => 0#16 ++ s.acc1 ++ s.acc0
  | .caps => BitVec.ofNat 32 s.outbufBytes.val
  | .pal n => (s.palEntry n).setWidth 32
  | .pixel => 0
  | .rowEnd => 0
  | .frameEnd => 0

/-- The value of an OUT read (R71, R157). -/
def State.readOut (s : State) (a : Addr) : Word :=
  if a.toNat < s.outbufBytes.val then (s.outbuf.read a.toNat).setWidth 32 else 0

/-- A reserved access (R97): a read answers 0, a write has no effect. Log entry 7. -/
def State.reservedAccess (s : State) (r : ReservedAccess) : State := if r.we then s else s.respond 0

/-! ## Taking an event from the port, and reset -/

/-- The event at the head of the port is taken, and the previous read response is gone (R8, R79). -/
def State.accept (s : State) (rest : List PortEvent) : State := { s with port := rest, rdata := none }

/-- The reset event (R240): every element at R49's value, a fresh draw for OUTBUF; the parameter and what is still to come on
the port stay. Log entry 6. -/
def State.applyReset (s : State) : State := { State.atReset s.outbufBytes s.draws with port := s.port }

end Sys2Proof.Machine
end

