-- ==== Sys2Proof/Machine/Control.lean ====
section
/-! DEFINITION. Frame control and register access (41_control.md R130-R174). -/

namespace Sys2Proof.Machine

/-- WR_CTRL (R130): ABORT wins over START; neither bit, no effect. -/
def execWrCtrl (data : Word) (s : State) : Host.Outcome State Fault Refusal :=
  if abortBit data then .next s.abortFrame
  else if startBit data then .next s.startFrame
  else .next s

/-- WR_MODE (R137): a field of 3 is ignored (WARL). -/
def execWrMode (data : Word) (s : State) : Host.Outcome State Fault Refusal :=
  .next (s.cfgWrite fun s => s.writeMode data)

/-- WR_WIDTH (R138). -/
def execWrWidth (data : Word) (s : State) : Host.Outcome State Fault Refusal :=
  .next (s.cfgWrite fun s => s.setWidth (dimField data))

/-- WR_HEIGHT (R139). -/
def execWrHeight (data : Word) (s : State) : Host.Outcome State Fault Refusal :=
  .next (s.cfgWrite fun s => s.setHeight (dimField data))

/-- WR_PLANES (R140): stored, with no other effect. -/
def execWrPlanes (data : Word) (s : State) : Host.Outcome State Fault Refusal :=
  .next (s.cfgWrite fun s => s.setPlanes data)

/-- WR_INTEN (R142): in every STATE, not gated by cfg_write. -/
def execWrInten (data : Word) (s : State) : Host.Outcome State Fault Refusal :=
  .next (s.setInten (intenField data))

/-- RD_STATUS (R145). -/
def execRdStatus (s : State) : Host.Outcome State Fault Refusal :=
  .next (s.respond (s.readReg .status))

/-- RD_MODE (R146). -/
def execRdMode (s : State) : Host.Outcome State Fault Refusal :=
  .next (s.respond (s.readReg .mode))

/-- RD_WIDTH (R147). -/
def execRdWidth (s : State) : Host.Outcome State Fault Refusal :=
  .next (s.respond (s.readReg .width))

/-- RD_HEIGHT (R148). -/
def execRdHeight (s : State) : Host.Outcome State Fault Refusal :=
  .next (s.respond (s.readReg .height))

/-- RD_PLANES (R149). -/
def execRdPlanes (s : State) : Host.Outcome State Fault Refusal :=
  .next (s.respond (s.readReg .planes))

/-- RD_INTEN (R150). -/
def execRdInten (s : State) : Host.Outcome State Fault Refusal :=
  .next (s.respond (s.readReg .inten))

/-- RD_OUT_LEN (R151). -/
def execRdOutLen (s : State) : Host.Outcome State Fault Refusal :=
  .next (s.respond (s.readReg .outLen))

/-- RD_ERR_POS (R152). -/
def execRdErrPos (s : State) : Host.Outcome State Fault Refusal :=
  .next (s.respond (s.readReg .errPos))

/-- RD_ERR_RGB (R153). -/
def execRdErrRgb (s : State) : Host.Outcome State Fault Refusal :=
  .next (s.respond (s.readReg .errRgb))

/-- RD_POS (R154). -/
def execRdPos (s : State) : Host.Outcome State Fault Refusal :=
  .next (s.respond (s.readReg .pos))

/-- RD_ACC (R155). -/
def execRdAcc (s : State) : Host.Outcome State Fault Refusal :=
  .next (s.respond (s.readReg .acc))

/-- RD_CAPS (R156). -/
def execRdCaps (s : State) : Host.Outcome State Fault Refusal :=
  .next (s.respond (s.readReg .caps))

/-- RD_OUT (R157): the addressed byte, 0 at or above OUTBUF_BYTES. -/
def execRdOut (a : Addr) (s : State) : Host.Outcome State Fault Refusal :=
  .next (s.respond (s.readOut a))

/-- WR_OUT (R163): no effect, at any address. -/
def execWrOut (_a : Addr) (_data : Word) (s : State) : Host.Outcome State Fault Refusal :=
  .next s

/-- WR_STATUS (R160, R164): no effect. -/
def execWrStatus (_data : Word) (s : State) : Host.Outcome State Fault Refusal :=
  .next s

/-- WR_OUT_LEN (R160, R165): no effect. -/
def execWrOutLen (_data : Word) (s : State) : Host.Outcome State Fault Refusal :=
  .next s

/-- WR_ERR_POS (R160, R166): no effect. -/
def execWrErrPos (_data : Word) (s : State) : Host.Outcome State Fault Refusal :=
  .next s

/-- WR_ERR_RGB (R160, R167): no effect. -/
def execWrErrRgb (_data : Word) (s : State) : Host.Outcome State Fault Refusal :=
  .next s

/-- WR_POS (R160, R168): no effect. -/
def execWrPos (_data : Word) (s : State) : Host.Outcome State Fault Refusal :=
  .next s

/-- WR_ACC (R160, R169): no effect. -/
def execWrAcc (_data : Word) (s : State) : Host.Outcome State Fault Refusal :=
  .next s

/-- WR_CAPS (R160, R170): no effect. -/
def execWrCaps (_data : Word) (s : State) : Host.Outcome State Fault Refusal :=
  .next s

/-- RD_CTRL (R161, R171): answers 0. -/
def execRdCtrl (s : State) : Host.Outcome State Fault Refusal :=
  .next (s.respond (s.readReg .ctrl))

/-- RD_PIXEL (R161, R172): answers 0 and pushes no pixel. -/
def execRdPixel (s : State) : Host.Outcome State Fault Refusal :=
  .next (s.respond (s.readReg .pixel))

/-- RD_ROW_END (R161, R173): answers 0 and ends no row. -/
def execRdRowEnd (s : State) : Host.Outcome State Fault Refusal :=
  .next (s.respond (s.readReg .rowEnd))

/-- RD_FRAME_END (R161, R174): answers 0 and ends no frame. -/
def execRdFrameEnd (s : State) : Host.Outcome State Fault Refusal :=
  .next (s.respond (s.readReg .frameEnd))

end Sys2Proof.Machine
end

