-- ==== Sys2Proof/Machine/Palette.lean ====
section
/-! DEFINITION. The palette register operations (40_palette.md R117-R120). -/

namespace Sys2Proof.Machine

/-- WR_PAL (R117): `cfg_write(PAL[n] <- DATA[23:0])`. -/
def execWrPal (n : Code) (data : Word) (s : State) : Host.Outcome State Fault Refusal :=
  .next (s.cfgWrite fun s => s.setPal n (colourField data))

/-- RD_PAL (R118). -/
def execRdPal (n : Code) (s : State) : Host.Outcome State Fault Refusal :=
  .next (s.respond (s.readReg (.pal n)))

/-- WR_PAL_LEN (R119): `cfg_write(PAL_LEN <- DATA[7:0])`. -/
def execWrPalLen (data : Word) (s : State) : Host.Outcome State Fault Refusal :=
  .next (s.cfgWrite fun s => s.setPalLen (palLenField data))

/-- RD_PAL_LEN (R120). -/
def execRdPalLen (s : State) : Host.Outcome State Fault Refusal :=
  .next (s.respond (s.readReg .palLen))

end Sys2Proof.Machine
end

