-- ==== Sys2Proof/Machine/Stream.lean ====
section
/-! DEFINITION. The pixel stream (42_pixel_packing.md R180, R190, R195), its checks in the order of R214. -/

namespace Sys2Proof.Machine

/-- WR_PIXEL (R180). -/
def execWrPixel (data : Word) (s : State) : Host.Outcome State Fault Refusal :=
  if s.frame ≠ .busy then .next s.drop
  else if s.y = s.height then .next (s.raiseError .invalidImageShape .tooManyRows s.x s.y 0)
  else if s.x = s.width then .next (s.raiseError .invalidImageShape .rowTooLong s.x s.y 0)
  else
    match s.classify (pixelKey data) with
    | none => .next (s.raiseError .unknownColor .none s.x s.y (pixelKey data))
    | some c => s.acceptPixel c

/-- WR_ROW_END (R190); DATA is ignored. -/
def execWrRowEnd (_data : Word) (s : State) : Host.Outcome State Fault Refusal :=
  if s.frame ≠ .busy then .next s.drop
  else if s.y = s.height then .next (s.raiseError .invalidImageShape .tooManyRows s.x s.y 0)
  else if s.x ≠ s.width then .next (s.raiseError .invalidImageShape .rowTooShort s.x s.y 0)
  else .next s.endRow

/-- WR_FRAME_END (R195); DATA is ignored. OUT_LEN and OUTBUF are unchanged. -/
def execWrFrameEnd (_data : Word) (s : State) : Host.Outcome State Fault Refusal :=
  if s.frame ≠ .busy then .next s.drop
  else if s.y ≠ s.height then .next (s.raiseError .invalidImageShape .tooFewRows s.x s.y 0)
  else .next (s.setFrame .done)

end Sys2Proof.Machine
end

