-- ==== Sys2Proof/Machine/Dispatch.lean ====
section
/-! DEFINITION. One arm per operation of the opcode map (30_encoding.md R96). -/

namespace Sys2Proof.Machine

def exec (i : Instr) (s : State) : Host.Outcome State Fault Refusal :=
  match i with
  | .wrCtrl data => Sys2Proof.Machine.execWrCtrl data s
  | .rdCtrl => Sys2Proof.Machine.execRdCtrl s
  | .rdStatus => Sys2Proof.Machine.execRdStatus s
  | .wrStatus data => Sys2Proof.Machine.execWrStatus data s
  | .wrMode data => Sys2Proof.Machine.execWrMode data s
  | .rdMode => Sys2Proof.Machine.execRdMode s
  | .wrWidth data => Sys2Proof.Machine.execWrWidth data s
  | .rdWidth => Sys2Proof.Machine.execRdWidth s
  | .wrHeight data => Sys2Proof.Machine.execWrHeight data s
  | .rdHeight => Sys2Proof.Machine.execRdHeight s
  | .wrPlanes data => Sys2Proof.Machine.execWrPlanes data s
  | .rdPlanes => Sys2Proof.Machine.execRdPlanes s
  | .wrPalLen data => Sys2Proof.Machine.execWrPalLen data s
  | .rdPalLen => Sys2Proof.Machine.execRdPalLen s
  | .wrInten data => Sys2Proof.Machine.execWrInten data s
  | .rdInten => Sys2Proof.Machine.execRdInten s
  | .rdOutLen => Sys2Proof.Machine.execRdOutLen s
  | .wrOutLen data => Sys2Proof.Machine.execWrOutLen data s
  | .rdErrPos => Sys2Proof.Machine.execRdErrPos s
  | .wrErrPos data => Sys2Proof.Machine.execWrErrPos data s
  | .rdErrRgb => Sys2Proof.Machine.execRdErrRgb s
  | .wrErrRgb data => Sys2Proof.Machine.execWrErrRgb data s
  | .rdPos => Sys2Proof.Machine.execRdPos s
  | .wrPos data => Sys2Proof.Machine.execWrPos data s
  | .rdAcc => Sys2Proof.Machine.execRdAcc s
  | .wrAcc data => Sys2Proof.Machine.execWrAcc data s
  | .rdCaps => Sys2Proof.Machine.execRdCaps s
  | .wrCaps data => Sys2Proof.Machine.execWrCaps data s
  | .wrPal n data => Sys2Proof.Machine.execWrPal n data s
  | .rdPal n => Sys2Proof.Machine.execRdPal n s
  | .wrPixel data => Sys2Proof.Machine.execWrPixel data s
  | .rdPixel => Sys2Proof.Machine.execRdPixel s
  | .wrRowEnd data => Sys2Proof.Machine.execWrRowEnd data s
  | .rdRowEnd => Sys2Proof.Machine.execRdRowEnd s
  | .wrFrameEnd data => Sys2Proof.Machine.execWrFrameEnd data s
  | .rdFrameEnd => Sys2Proof.Machine.execRdFrameEnd s
  | .rdOut a => Sys2Proof.Machine.execRdOut a s
  | .wrOut a data => Sys2Proof.Machine.execWrOut a data s

end Sys2Proof.Machine
end

