-- ==== Sys2Proof/Machine/Port.lean ====
section
/-! DEFINITION. Performing what the port holds: a transaction word, or the platform's reset (00_scope.md R8, 30_encoding.md R97,
R102, 70_reset_and_hazards.md R240). -/

namespace Sys2Proof.Machine

/-- One transaction word: the row it decodes to, or the reserved access it is (R97, R102). -/
def perform (T : TxnWord) (s : State) : Host.Outcome State Fault Refusal :=
  match decode T with
  | .ok i => exec i s
  | .error r => .next (s.reservedAccess r)

/-- One event from outside: a transaction (R8) or a reset, which falls between two transactions (R240). -/
def performEvent (e : PortEvent) (s : State) : Host.Outcome State Fault Refusal :=
  match e with
  | .txn T => perform T s
  | .reset => .next s.applyReset

/-- A step with nothing issued: the block never changes state on its own (R212; log entry 4). -/
def performNothing (s : State) : Host.Outcome State Fault Refusal := .next s

end Sys2Proof.Machine
end

