-- ==== Sys2Proof/Machine/Step.lean ====
section
/-! DEFINITION. One step: the oldest event on the port is taken and performed completely (00_scope.md R8, 20_memory.md R79). -/

namespace Sys2Proof.Machine

/-- One step (R8, R79). -/
def step (s : State) : Host.Outcome State Fault Refusal :=
  match s.port with
  | [] => performNothing s
  | e :: rest => performEvent e (s.accept rest)

/-- `s` with the transaction `w` issued as the next one to perform. -/
def State.withFetchWord (s : State) (nbits w : Nat) : State :=
  { s with port := .txn (BitVec.ofNat 64 (w % 2 ^ nbits)) :: s.port }

end Sys2Proof.Machine
end

