-- ==== Sys2Proof/Safety.lean ====
section
/-! DEFINITION. What a safe state is (10_state.md R50, corrected as log entry 10 says), and the terms the statements use: sampled
encodings, frames as event lists (42_pixel_packing.md R186) and the plane fields the spec writes out (R182-R184). -/

namespace Sys2Proof.Machine

/-- The (ERR_KIND, ERR_DETAIL) pairs that occur: detail 0 except with kind 2, and never 0 with kind 2 (R210, R211, I20). -/
def ErrKind.admits : ErrKind → ErrDetail → Bool
  | .invalidImageShape, d => d != .none
  | _, d => d == .none

/-- The checks of START, all passed (R131, R213). -/
def State.acceptsFrame (s : State) : Prop :=
  s.palLen.toNat = s.mode.romN ∧ s.width.toNat % s.mode.romPack = 0 ∧ s.frameBytes ≤ s.outbufBytes.val

/-- The position bounds of a running frame (R50 item 1). -/
def State.inFrame (s : State) : Prop :=
  s.y.toNat ≤ s.height.toNat ∧ s.x.toNat ≤ s.width.toNat ∧ (s.y = s.height → s.x = 0)

/-- Both accumulators are 0. -/
def State.rowClear (s : State) : Prop := s.acc0 = 0 ∧ s.acc1 = 0

/-- The invariant: R50, with items 2 and 6 in the form that holds after a configuration write outside BUSY (log entry 10; R50
whole, over the frame, is `State.MeetsR50`), the
accumulator rule R44, the error fields of R33, R34 and R210, and the layout of OUTBUF (R46, R74). -/
structure State.Inv (s : State) : Prop where
  /-- OUTBUF is in its canonical form. -/
  outbuf_wf : s.outbuf.wf = true
  /-- No byte at or above OUTBUF_BYTES is held (R46). -/
  outbuf_inside : ∀ c ∈ s.outbuf.cells, c.1 < s.outbufBytes.val
  /-- A reset draw is never taken twice (R240). -/
  draw_taken : ∀ d, s.outbuf.fill = .unspecified d → d < s.draws
  /-- In BUSY and DONE an accepted START has cleared OUTBUF (R131). -/
  frame_cleared : s.frame = .busy ∨ s.frame = .done → s.outbuf.fill = .zeroed
  /-- R50 item 1, position. -/
  busy_position : s.frame = .busy → s.inFrame
  /-- R50 item 1, configuration: what START checked still holds. -/
  busy_accepts : s.frame = .busy → s.acceptsFrame
  /-- R50 item 1, length. -/
  busy_length : s.frame = .busy → s.outLen.toNat = s.frameBytes
  /-- R44: the accumulators are 0 at the start of every row. -/
  busy_row_start : s.frame = .busy → s.x = 0 → s.rowClear
  /-- R50 item 6, while a frame runs. -/
  busy_one_plane : s.frame = .busy → s.mode.romPlanes = 1 → s.acc1 = 0
  /-- R50 item 2, as far as configuration writes leave it. -/
  done_position : s.frame = .done → s.x = 0 ∧ s.rowClear ∧ s.outLen.toNat ≤ s.outbufBytes.val
  /-- R49, R132. -/
  idle_position : s.frame = .idle → s.x = 0 ∧ s.y = 0 ∧ s.rowClear
  /-- R50 item 3. -/
  no_result : s.frame = .idle ∨ s.frame = .error → s.outLen = 0
  /-- R50 item 4. -/
  error_kind : s.errKind ≠ .none ↔ s.frame = .error
  /-- R211. -/
  error_detail : s.errKind.admits s.errDetail = true
  /-- R152. -/
  error_position : s.frame ≠ .error → s.errX = 0 ∧ s.errY = 0
  /-- R34, R153. -/
  error_colour : s.errKind ≠ .unknownColor → s.errRgb = 0
  /-- R74: every byte at OUT_LEN or above is 0x00. -/
  tail_zero : s.frame = .busy ∨ s.frame = .done → ∀ a, s.outLen.toNat ≤ a → s.outbuf.read a = 0

/-- R50 items 2 and 6 read over the registers as they stand, not over the frame's as `State.MeetsR50` reads them. Beside `State.Inv`,
every step keeps them but for a configuration write that R48 lets through outside BUSY (log entry 10). -/
structure State.AsWorded (s : State) : Prop where
  /-- Item 2: STATE = DONE implies Y = HEIGHT, X = 0, and OUT_LEN as in item 1. -/
  done_shape : s.frame = .done →
    s.y = s.height ∧ s.x = 0 ∧ s.outLen.toNat = s.frameBytes ∧ s.frameBytes ≤ s.outbufBytes.val
  /-- Item 6: in 7C and RWB4, ACC1 = 0. -/
  one_plane : s.mode ≠ .rwb → s.acc1 = 0

/-! ## R50 whole, over the frame of the last accepted START -/

/-- What R50 looks back at: W, H and m "at the accepted START" (R74), and the codes of the pixels accepted in the current row. It is
history, no state of the block: no step reads it. -/
structure FrameHistory where
  mode : Mode
  width : Dim
  height : Dim
  row : List Code
  deriving DecidableEq, Repr

/-- OUT_LEN of the frame: NPLANES * (H * W) / PACK (R74). -/
def FrameHistory.bytes (h : FrameHistory) : Nat :=
  h.mode.romPlanes * ((h.height.toNat * h.width.toNat) / h.mode.romPack)

/-- The history after operation `i` in state `s`. A frame begins at an accepted START; none is left by a START that fails or an ABORT. -/
def FrameHistory.after (i : Instr) (s : State) (f : Option FrameHistory) : Option FrameHistory :=
  match i with
  | .wrCtrl d =>
    if abortBit d then none
    else if startBit d then
      (if s.startFrame.frame = .busy then some ⟨s.mode, s.width, s.height, []⟩ else none)
    else f
  | .wrPixel d =>
    if s.frame = .busy ∧ s.y ≠ s.height ∧ s.x ≠ s.width then
      match s.classify (pixelKey d) with
      | some c => f.map fun h => { h with row := h.row ++ [c] }
      | none => f
    else f
  | .wrRowEnd _ =>
    if s.frame = .busy ∧ s.y ≠ s.height ∧ s.x = s.width then f.map fun h => { h with row := [] } else f
  | _ => f

/-- The history after the step from `s`. -/
def State.historyAfter (s : State) (f : Option FrameHistory) : Option FrameHistory :=
  match s.port with
  | [] => f
  | .reset :: _ => none
  | .txn T :: _ =>
    match decode T with
    | .ok i => FrameHistory.after i s f
    | .error _ => f

/-- The history after `k` steps from `s`. -/
def historyRun : Nat → State → Option FrameHistory → Option FrameHistory
  | 0, _, f => f
  | k + 1, s, f =>
    match step s with
    | .next t => historyRun k t (s.historyAfter f)
    | .fault _ => f
    | .refused _ => f

/-- The accumulator that codes `cs` make from 0, in fields of `fb` bits (R181). -/
def packedCodes (fb : Nat) (field : Code → BitVec 4) (cs : List Code) : Byte :=
  cs.foldl (fun a c => shiftIn a fb (field c)) 0

/-- R50 item 5 for one accumulator: it holds the fields of the current row's pixels, and its low (X mod PACK) * FB bits those of the
current partial byte alone. -/
def State.holdsRow (s : State) (row : List Code) (acc : Byte) (field : Code → BitVec 4) : Prop :=
  acc = packedCodes s.mode.romFb field row ∧
    ∀ k < (s.x.toNat % s.mode.romPack) * s.mode.romFb,
      acc.getLsbD k = (packedCodes s.mode.romFb field (row.drop (row.length - s.x.toNat % s.mode.romPack))).getLsbD k

/-- R50, item by item. HEIGHT, WIDTH and MODE are those of the frame, "at the accepted START" (R74), as OUT_LEN in DONE is "the frame's
length" (R151); in BUSY they are the registers (R48). Log entry 10. -/
structure State.MeetsR50 (s : State) (f : Option FrameHistory) : Prop where
  /-- Item 1. -/
  item1 : s.frame = .busy → s.inFrame ∧ s.acceptsFrame ∧ s.outLen.toNat = s.frameBytes
  /-- Item 1, that the registers are the frame's own. -/
  item1_frame : s.frame = .busy → ∃ h, f = some h ∧ h.mode = s.mode ∧ h.width = s.width ∧ h.height = s.height
  /-- Item 2. -/
  item2 : s.frame = .done → ∃ h, f = some h ∧ s.y = h.height ∧ s.x = 0 ∧ s.outLen.toNat = h.bytes ∧ h.bytes ≤ s.outbufBytes.val
  /-- Item 3. -/
  item3 : s.frame = .idle ∨ s.frame = .error → s.outLen = 0
  /-- Item 4. -/
  item4 : s.errKind ≠ .none ↔ s.frame = .error
  /-- Item 5. -/
  item5 : s.frame = .busy → ∃ h, f = some h ∧ h.row.length = s.x.toNat ∧ s.holdsRow h.row s.acc0 s.mode.romField0 ∧
    (s.mode.romPlanes = 2 → s.holdsRow h.row s.acc1 s.mode.romField1)
  /-- Item 6, in a frame of 7C or RWB4. -/
  item6 : ∀ h, f = some h → h.mode ≠ .rwb → s.acc1 = 0
  /-- Item 6, outside any frame. -/
  item6_no_frame : f = none → s.acc1 = 0

/-- R84: in BUSY, the bytes not finalised yet are the 0x00 of the cleared buffer, in each plane. -/
def State.restZero (s : State) : Prop :=
  s.frame = .busy → ∀ p < s.mode.romPlanes, ∀ j, s.byteIndex ≤ j → j < s.planeBytes →
    s.outbuf.read (p * s.planeBytes + j) = 0

/-- Equal in everything but the contents of OUTBUF and the draw counter (R9). -/
def State.agrees (s t : State) : Prop := { s with outbuf := t.outbuf, draws := t.draws } = t

/-! ## Frames (R186) -/

/-- One row of pixels and its ROW_END (R242 step 4). -/
def rowEvents (row : List Word) : List PortEvent :=
  row.map (fun d => .txn (encode (.wrPixel d))) ++ [.txn (encode (.wrRowEnd 0))]

/-- START, the rows, FRAME_END: "exactly these transactions" (R186). -/
def frameEvents (image : List (List Word)) : List PortEvent :=
  .txn (encode (.wrCtrl 1)) :: (image.flatMap rowEvents ++ [.txn (encode (.wrFrameEnd 0))])

/-- A read: a transaction with WE = 0 (R90), an operation or a reserved access. -/
def PortEvent.isRead : PortEvent → Bool
  | .txn T => !T.getLsbD 62
  | .reset => false

/-- The image has HEIGHT rows of WIDTH pixels, and every pixel's key equals some PAL[i] with i < N (R186). -/
def State.imageMatches (s : State) (image : List (List Word)) : Prop :=
  image.length = s.height.toNat ∧
    ∀ row ∈ image, row.length = s.width.toNat ∧ ∀ d ∈ row, s.classify (pixelKey d) ≠ none

/-- c(x, y) = classify(k(x, y)) (R186). -/
def State.codeAt (s : State) (image : List (List Word)) (x y : Nat) : Code :=
  (s.classify (pixelKey ((image.getD y []).getD x 0))).getD 0

/-- F of R182 and R184: the identity for 7C, [0x0, 0x3, 0x4] for RWB4. -/
def Mode.nibbleOf (m : Mode) (c : Code) : Byte :=
  match m with
  | .rwb4 => ([0x0, 0x3, 0x4] : List Byte).getD c.toNat 0
  | _ => c.setWidth 8

/-- BWbit = [0, 1, 0][c] (R183). -/
def bwBit (c : Code) : Bool := c == 1

/-- Redbit = [0, 0, 1][c] (R183). -/
def redBit (c : Code) : Bool := c == 2

end Sys2Proof.Machine

namespace Sys2Proof

/-- The transaction words `pattern` with any DATA decode to `f DATA`: a REG row's encoding with the mask of R96. -/
def DecodesAs (pattern : TxnWord) (f : Word → Instr) : Prop :=
  ∀ d : Word, decode (pattern ||| d.setWidth 64) = .ok (f d)

/-- A stream write (R196): PIXEL, ROW_END or FRAME_END. -/
def Instr.isStream : Instr → Bool
  | .wrPixel _ | .wrRowEnd _ | .wrFrameEnd _ => true
  | _ => false

/-- A write of a configuration register (R48). -/
def Instr.isConfigWrite : Instr → Bool
  | .wrMode _ | .wrWidth _ | .wrHeight _ | .wrPlanes _ | .wrPalLen _ | .wrPal _ _ => true
  | _ => false

end Sys2Proof
end

