-- ==== Sys2Proof/Certificates/Slice0/Obligations.lean ====
section
/-! DEFINITION. The statements for the provers. A docstring names the rule of spec/ a statement formalises, or the log entry a
clause rests on. `DecodesAs pattern f` is the Encoding line of an instruction rule. -/

open Sys2Proof Sys2Proof.Machine

/-! ## Encoding -/

/-- R90, R96, R102: the decoder reads back every operation the encoder writes, with every operand. -/
def Obligations.DecodeEncodeRoundTrip : Prop :=
  ∀ i : Instr, decode (encode i) = .ok i

/-- R90, R97: a decoded write loses no bit of its word; a decoded read loses only its DATA, which is ignored when WE = 0. -/
def Obligations.EncodeDecodeRestoresWord : Prop :=
  ∀ (T : TxnWord) (i : Instr), decode T = .ok i →
    encode i = if T.getLsbD 62 then T else T &&& 0xFFFFFFFF00000000

/-- R96: a word decodes to the operation of the one row it selects; a word that selects no row is reserved. -/
def Obligations.DecoderFollowsOpcodeMap : Prop :=
  (∀ (T : TxnWord) (i : Instr), decode T = .ok i →
    i.row ∈ opcodeTable ∧ i.row.selectedBy T = true ∧
    ∀ r ∈ opcodeTable, r.selectedBy T = true → r = i.row) ∧
  (∀ (T : TxnWord) (a : ReservedAccess), decode T = .error a → ∀ r ∈ opcodeTable, r.selectedBy T = false)

/-- R97: exactly the listed words are reserved, and the step performs them as R97 says. That the word comes off the port and that a
write leaves no response is the model's form of R8 (log entries 4 and 5). -/
def Obligations.ReservedAccessesAreIgnored : Prop :=
  ∀ T : TxnWord,
    ((∃ a, decode T = .error a) ↔
      T.getLsbD 63 = false ∧
        (T.extractLsb' 40 22 ≠ 0 ∨ T.extractLsb' 32 2 ≠ 0 ∨ T.extractLsb' 32 8 = 0x38 ∨ T.extractLsb' 32 8 = 0x3C ∨
          0x6C ≤ (T.extractLsb' 32 8).toNat)) ∧
    ∀ (a : ReservedAccess) (s : State) (rest : List PortEvent), decode T = .error a → s.port = .txn T :: rest →
      step s = .next { s with port := rest, rdata := if T.getLsbD 62 then none else some 0 }

/-- 95_test_vectors.md, P1 to P3: words written out there decode to the transactions named beside them. -/
def Obligations.SampleWordsDecode : Prop :=
  decode 0x4000000000000001 = .ok (.wrCtrl 1) ∧ decode 0x4000000800000002 = .ok (.wrMode 2) ∧
  decode 0x4000004C000000FF = .ok (.wrPal 3 0xFF) ∧ decode 0x4000006000FF00FF = .ok (.wrPixel 0x00FF00FF) ∧
  decode 0x4000006400000000 = .ok (.wrRowEnd 0) ∧ decode 0x4000006800000000 = .ok (.wrFrameEnd 0) ∧
  decode 0x0000002C00000000 = .ok .rdPos ∧ decode 0x8000000300000000 = .ok (.rdOut 3)

/-- R100, R101: every assembler line and every pseudo-instruction stands for the transaction of its row. -/
def Obligations.AssemblerNamesTransactions : Prop :=
  (∀ (r : Reg) (imm : Word), decode (Asm.wr r imm).word = .ok (r.operation true imm)) ∧
  (∀ r : Reg, decode (Asm.rd r).word = .ok (r.operation false 0)) ∧
  (∀ (a : Addr) (imm : Word), decode (Asm.rdout a).word = .ok (.rdOut a) ∧
    decode (Asm.wrout a imm).word = .ok (.wrOut a imm) ∧ Txn.ofWord (Asm.rdraw a).word = ⟨false, false, a, 0⟩ ∧
    Txn.ofWord (Asm.wrraw a imm).word = ⟨false, true, a, imm⟩) ∧
  decode Pseudo.start.expand.word = .ok (.wrCtrl 1) ∧ decode Pseudo.abort.expand.word = .ok (.wrCtrl 2) ∧
  decode Pseudo.mode7c.expand.word = .ok (.wrMode 0) ∧ decode Pseudo.modeRwb.expand.word = .ok (.wrMode 1) ∧
  decode Pseudo.modeRwb4.expand.word = .ok (.wrMode 2) ∧ decode Pseudo.eol.expand.word = .ok (.wrRowEnd 0) ∧
  decode Pseudo.eof.expand.word = .ok (.wrFrameEnd 0) ∧
  (∀ (n : Code) (r g b : Byte), decode (Pseudo.pal n r g b).expand.word = .ok (.wrPal n (0#8 ++ r ++ g ++ b))) ∧
  (∀ r g b : Byte, decode (Pseudo.pix r g b).expand.word = .ok (.wrPixel (r ++ g ++ b ++ 0xFF#8))) ∧
  (∀ r g b a : Byte, decode (Pseudo.pixa r g b a).expand.word = .ok (.wrPixel (r ++ g ++ b ++ a)))

/-! ## The step, the port and reset -/

/-- R8, R79 and log entry 4: a step takes the oldest word on the port and is `exec` of the operation it decodes to. -/
def Obligations.StepRunsDecodedInstruction : Prop :=
  ∀ (s : State) (T : TxnWord) (rest : List PortEvent) (i : Instr), s.port = .txn T :: rest → decode T = .ok i →
    step s = exec i { s with port := rest, rdata := none }

/-- Log entries 4 and 6, the model's choice after R212 and R240: with nothing issued a step changes nothing; a reset event keeps
the parameter and the port, and gives every OUTBUF byte the free value of a fresh draw. -/
def Obligations.IdleStepsAndResetEvents : Prop :=
  (∀ s : State, s.port = [] → step s = .next s) ∧
  (∀ (s : State) (rest : List PortEvent), s.port = .reset :: rest → ∃ t, step s = .next t ∧ t.port = rest ∧
    t.outbufBytes = s.outbufBytes ∧ t.draws = s.draws + 1 ∧ t.rdata = none ∧
    ∀ a, t.outbuf.read a = Config.resetByte s.draws a)

/-- R49: every element but OUTBUF, whose bytes it leaves unspecified, at its value after reset, after power-on and after any
reset event. -/
def Obligations.ResetValues : Prop :=
  ∀ t : State, (t = State.reset ∨ ∃ (s : State) (rest : List PortEvent), s.port = .reset :: rest ∧ step s = .next t) →
    t.frame = .idle ∧ t.dropped = false ∧ t.errKind = .none ∧ t.errDetail = .none ∧ t.mode = .sevenColour ∧
    t.width = 0 ∧ t.height = 0 ∧ t.planes = 0 ∧ t.palLen = 0 ∧ (∀ n, t.palEntry n = 0) ∧ t.inten = 0 ∧ t.outLen = 0 ∧
    t.errX = 0 ∧ t.errY = 0 ∧ t.errRgb = 0 ∧ t.x = 0 ∧ t.y = 0 ∧ t.acc0 = 0 ∧ t.acc1 = 0 ∧ t.irq = false

/-! ## Invariants and safety -/

/-- R49, R50: the reset state meets the invariant. -/
def Obligations.InvariantHoldsAtReset : Prop := State.reset.Inv

/-- R50 (items 2 and 6 as log entry 10 reads them), R44, R46, R74: every step keeps the invariant. -/
def Obligations.EveryStepKeepsInvariant : Prop :=
  ∀ s t : State, s.Inv → step s = .next t → t.Inv

/-- R49, R50: the reset state, before any frame, meets R50. -/
def Obligations.ResetMeetsR50 : Prop := State.reset.MeetsR50 none

/-- R50 in the reading of log entry 10 (HEIGHT, WIDTH and MODE "at the accepted START", R74): every step keeps all its items, whatever
configuration is written in between. -/
def Obligations.EveryStepKeepsR50 : Prop :=
  ∀ (s t : State) (f : Option FrameHistory), s.Inv → s.MeetsR50 f → step s = .next t → t.MeetsR50 (s.historyAfter f)

/-- R50, "in every reachable state", in the reading of log entry 10: after any run from reset, of a block of any capacity. -/
def Obligations.ReachableStatesMeetR50 : Prop :=
  ∀ (cap : Capacity) (events : List PortEvent) (k : Nat) (t : State),
    Host.Core.run Sys2Proof.core k { State.atReset cap 0 with port := events } = .next t →
    t.MeetsR50 (historyRun k { State.atReset cap 0 with port := events } none)

/-- R151, R154, with log entry 10: in DONE, POS reads {H, 0} and OUT_LEN the frame's length, H, W and m being those of the accepted
START, whatever configuration was written since. -/
def Obligations.DoneReadsTheFramesShape : Prop :=
  ∀ (s : State) (f : Option FrameHistory), s.MeetsR50 f → s.frame = .done →
    ∃ h, f = some h ∧ exec .rdPos s = .next { s with rdata := some (h.height ++ 0#16) } ∧
      ∃ v : Word, exec .rdOutLen s = .next { s with rdata := some v } ∧ v.toNat = h.bytes

/-- R50 items 2 and 6, word for word over MODE, WIDTH and HEIGHT as they stand: in every reachable state in which those registers still
are what they were at the accepted START, and in every reachable state outside any frame (log entry 10). -/
def Obligations.UnchangedRegistersMeetWordedItems : Prop :=
  ∀ (cap : Capacity) (events : List PortEvent) (k : Nat) (t : State),
    Host.Core.run Sys2Proof.core k { State.atReset cap 0 with port := events } = .next t →
    (∀ h, historyRun k { State.atReset cap 0 with port := events } none = some h →
      t.mode = h.mode ∧ t.width = h.width ∧ t.height = h.height) →
    t.AsWorded

/-- R49, R50: the reset state meets items 2 and 6 of R50, read over the registers as they stand. -/
def Obligations.WordedItemsHoldAtReset : Prop := State.reset.AsWorded

/-- R50 items 2 and 6 read over the registers as they stand, with log entry 10: every step keeps them, but for a WR_MODE, WR_WIDTH or WR_HEIGHT in DONE and a
WR_MODE in ERROR, which R48 lets take effect. -/
def Obligations.WordedItemsKeptButForConfiguration : Prop :=
  ∀ s t : State, s.Inv → s.AsWorded → step s = .next t →
    t.AsWorded ∨
    ∃ T rest d, s.port = .txn T :: rest ∧
      ((s.frame = .done ∧ (decode T = .ok (.wrMode d) ∨ decode T = .ok (.wrWidth d) ∨ decode T = .ok (.wrHeight d))) ∨
       (s.frame = .error ∧ decode T = .ok (.wrMode d)))

/-- R185, R212: from a state of the invariant the block never stops; no store of the writer falls outside OUTBUF. -/
def Obligations.InvariantStatesNeverStop : Prop :=
  ∀ s : State, s.Inv → ∃ t, step s = .next t

/-- R84: while a frame runs, the bytes not finalised yet stay the 0x00 of the cleared buffer. -/
def Obligations.UnfinishedBytesStayZero : Prop :=
  ∀ s t : State, s.Inv → s.restZero → step s = .next t → t.restZero

/-- R185: the writer's offsets for the pixel at (X, Y) of a running frame lie in their planes, below OUT_LEN. -/
def Obligations.WriterStaysBelowOutLen : Prop :=
  ∀ s : State, s.Inv → s.frame = .busy → s.y ≠ s.height → s.x ≠ s.width →
    s.byteIndex < s.planeBytes ∧ s.byteIndex < s.outLen.toNat ∧
    (s.mode.romPlanes = 2 → s.planeBytes + s.byteIndex < s.outLen.toNat) ∧ s.outLen.toNat ≤ s.outbufBytes.val

/-- R22: an accepted PIXEL advances X by one and an accepted ROW_END advances Y by one, without wrapping. -/
def Obligations.PositionNeverWraps : Prop :=
  ∀ s t : State, s.Inv → s.frame = .busy → t.frame = .busy →
    (∀ d, exec (.wrPixel d) s = .next t → t.x.toNat = s.x.toNat + 1 ∧ t.y = s.y) ∧
    (∀ d, exec (.wrRowEnd d) s = .next t → t.y.toNat = s.y.toNat + 1 ∧ t.x = 0)

/-- R50 item 6, "In 7C and RWB4, ACC1 = 0", read over the register MODE as it stands, in every reachable state. Expected to FAIL: an error leaves ACC1
as it was (R215) and MODE may then be written (R48). Log entry 10. -/
def Obligations.SecondAccumulatorZeroOutsideRwb : Prop :=
  ∀ (cap : Capacity) (events : List PortEvent) (k : Nat) (t : State),
    Host.Core.run Sys2Proof.core k { State.atReset cap 0 with port := events } = .next t →
    t.mode ≠ .rwb → t.acc1 = 0

/-- R50 item 2, "STATE = DONE implies Y = HEIGHT", read over the register HEIGHT as it stands, in every reachable state. Expected to FAIL: HEIGHT may be
written in DONE (R48, R139). Log entry 10. -/
def Obligations.DoneCountsHeightRows : Prop :=
  ∀ (cap : Capacity) (events : List PortEvent) (k : Nat) (t : State),
    Host.Core.run Sys2Proof.core k { State.atReset cap 0 with port := events } = .next t →
    t.frame = .done → t.y = t.height

/-! ## The palette lookup ROM and the palette matcher -/

/-- R112, R113: the MPROM words, their fields, PACK * FB = 8, and the fields of the FROM words; an entry never read is 0. -/
def Obligations.RomContents : Prop :=
  mpromWords = [0x0917, 0x2063, 0x0913, 0x0000] ∧ (∀ k, 24 ≤ k → fromWords.getD k 0 = 0) ∧
  (Mode.romN .sevenColour = 7 ∧ Mode.romPlanes .sevenColour = 1 ∧ Mode.romFb .sevenColour = 4 ∧
    Mode.romPack .sevenColour = 2) ∧
  (Mode.romN .rwb = 3 ∧ Mode.romPlanes .rwb = 2 ∧ Mode.romFb .rwb = 1 ∧ Mode.romPack .rwb = 8) ∧
  (Mode.romN .rwb4 = 3 ∧ Mode.romPlanes .rwb4 = 1 ∧ Mode.romFb .rwb4 = 4 ∧ Mode.romPack .rwb4 = 2) ∧
  (∀ m : Mode, m.romPack * m.romFb = 8) ∧
  (∀ m : Mode, m ≠ .rwb → ∀ c : Code, c.toNat < m.romN → (m.romField0 c).setWidth 8 = m.nibbleOf c ∧ m.romField1 c = 0) ∧
  (∀ c : Code, c.toNat < Mode.romN .rwb → Mode.romField0 .rwb c = (BitVec.ofBool (bwBit c)).setWidth 4 ∧
    Mode.romField1 .rwb c = (BitVec.ofBool (redBit c)).setWidth 4) ∧
  (∀ (m : Mode) (c : Code), m.romN ≤ c.toNat → m.fromWord c = 0)

/-- R122: the code-to-field map of each mode is injective on codes 0..N-1, with the map of each mode written out. -/
def Obligations.FieldMapIsInjective : Prop :=
  (∀ (m : Mode) (c c' : Code), c.toNat < m.romN → c'.toNat < m.romN →
    m.romField0 c = m.romField0 c' → m.romField1 c = m.romField1 c' → c = c') ∧
  (∀ c : Code, c.toNat < Mode.romN .sevenColour → (Mode.romField0 .sevenColour c).toNat = c.toNat) ∧
  (Mode.romField0 .rwb 0 = 0 ∧ Mode.romField1 .rwb 0 = 0 ∧ Mode.romField0 .rwb 1 = 1 ∧ Mode.romField1 .rwb 1 = 0 ∧
    Mode.romField0 .rwb 2 = 0 ∧ Mode.romField1 .rwb 2 = 1) ∧
  (∀ c : Code, c.toNat < Mode.romN .rwb → ¬ (Mode.romField0 .rwb c = 1 ∧ Mode.romField1 .rwb c = 1)) ∧
  (Mode.romField0 .rwb4 0 = 0x0 ∧ Mode.romField0 .rwb4 1 = 0x3 ∧ Mode.romField0 .rwb4 2 = 0x4)

/-- R115: NONE exactly when no entry below N equals the key, else the highest index below N that does. -/
def Obligations.ClassifierPicksHighestMatch : Prop :=
  ∀ (s : State) (key : Key),
    (s.classify key = none ↔ ∀ i : Code, i.toNat < s.mode.romN → s.palEntry i ≠ key) ∧
    ∀ c : Code, s.classify key = some c ↔
      c.toNat < s.mode.romN ∧ s.palEntry c = key ∧
        ∀ i : Code, c.toNat < i.toNat → i.toNat < s.mode.romN → s.palEntry i ≠ key

/-- R114: the key is DATA[31:8], and two pixels that differ only in alpha do the same. -/
def Obligations.AlphaTakesNoPart : Prop :=
  ∀ (s : State) (d d' : Word), d.extractLsb' 8 24 = d'.extractLsb' 8 24 →
    s.classify (pixelKey d) = s.classify (d'.extractLsb' 8 24) ∧ exec (.wrPixel d) s = exec (.wrPixel d') s

/-! ## Configuration and control writes -/

/-- R117, R119, R137-R140 with the gate R136: in BUSY the write is dropped, else it stores its field; nothing else changes. -/
def Obligations.ConfigurationWrites : Prop :=
  DecodesAs 0x4000000800000000 .wrMode ∧ DecodesAs 0x4000000C00000000 .wrWidth ∧
  DecodesAs 0x4000001000000000 .wrHeight ∧ DecodesAs 0x4000001400000000 .wrPlanes ∧
  DecodesAs 0x4000001800000000 .wrPalLen ∧
  (∀ n : Code, DecodesAs (0x4000004000000000 ||| n.setWidth 64 <<< 34) (.wrPal n)) ∧
  ∀ (s : State) (d : Word),
    (s.frame = .busy →
      exec (.wrMode d) s = .next { s with dropped := true } ∧ exec (.wrWidth d) s = .next { s with dropped := true } ∧
      exec (.wrHeight d) s = .next { s with dropped := true } ∧ exec (.wrPlanes d) s = .next { s with dropped := true } ∧
      exec (.wrPalLen d) s = .next { s with dropped := true } ∧
      ∀ n, exec (.wrPal n d) s = .next { s with dropped := true }) ∧
    (s.frame ≠ .busy →
      (d.extractLsb' 0 2 = 0 → exec (.wrMode d) s = .next { s with mode := .sevenColour }) ∧
      (d.extractLsb' 0 2 = 1 → exec (.wrMode d) s = .next { s with mode := .rwb }) ∧
      (d.extractLsb' 0 2 = 2 → exec (.wrMode d) s = .next { s with mode := .rwb4 }) ∧
      (d.extractLsb' 0 2 = 3 → exec (.wrMode d) s = .next s) ∧
      exec (.wrWidth d) s = .next { s with width := d.extractLsb' 0 16 } ∧
      exec (.wrHeight d) s = .next { s with height := d.extractLsb' 0 16 } ∧
      exec (.wrPlanes d) s = .next { s with planes := d } ∧
      exec (.wrPalLen d) s = .next { s with palLen := d.extractLsb' 0 8 } ∧
      ∀ n, ∃ t, exec (.wrPal n d) s = .next t ∧ t = { s with pal := t.pal } ∧
        ∀ i, t.palEntry i = if i = n then d.extractLsb' 0 24 else s.palEntry i)

/-- R142: INTEN ← DATA[1:0] in every STATE, nothing else changes, and `irq` follows at once. -/
def Obligations.InterruptEnableWrite : Prop :=
  DecodesAs 0x4000001C00000000 .wrInten ∧
  ∀ (s : State) (d : Word), ∃ t, exec (.wrInten d) s = .next t ∧ t = { s with inten := d.extractLsb' 0 2 } ∧
    (t.irq = true ↔ (s.frame = .done ∧ d.getLsbD 0 = true) ∨ (s.frame = .error ∧ d.getLsbD 1 = true))

/-- R132, with R130's encoding and priority: DATA[1] = 1 aborts any frame, whatever DATA[0] is. -/
def Obligations.AbortClearsFrame : Prop :=
  DecodesAs 0x4000000000000000 .wrCtrl ∧
  ∀ (s : State) (d : Word), d.getLsbD 1 = true →
    exec (.wrCtrl d) s = .next { s with
      frame := .idle, dropped := false, errKind := .none, errDetail := .none, errX := 0, errY := 0, errRgb := 0,
      x := 0, y := 0, acc0 := 0, acc1 := 0, outLen := 0 }

/-- R130: with neither START nor ABORT a CTRL write has no effect. -/
def Obligations.ControlWriteWithoutCommand : Prop :=
  ∀ (s : State) (d : Word), d.getLsbD 0 = false → d.getLsbD 1 = false → exec (.wrCtrl d) s = .next s

/-- R131, R213: START clears the bookkeeping, runs its three checks in order, and only then clears OUTBUF and enters BUSY. That the
cleared OUTBUF is in its canonical form (the last conjunct) is the model's choice of a form for memory, log entry 3. -/
def Obligations.StartChecksThenOpensFrame : Prop :=
  ∀ (s : State) (d : Word), d.getLsbD 1 = false → d.getLsbD 0 = true →
    let len := s.mode.romPlanes * ((s.height.toNat * s.width.toNat) / s.mode.romPack)
    let cleared : State := { s with
      dropped := false, errKind := .none, errDetail := .none, errX := 0, errY := 0, errRgb := 0,
      x := 0, y := 0, acc0 := 0, acc1 := 0, outLen := 0 }
    (s.palLen.toNat ≠ s.mode.romN →
      exec (.wrCtrl d) s = .next { cleared with frame := .error, errKind := .invalidPalette }) ∧
    (s.palLen.toNat = s.mode.romN → s.width.toNat % s.mode.romPack ≠ 0 →
      exec (.wrCtrl d) s = .next { cleared with
        frame := .error, errKind := .invalidImageShape, errDetail := .widthAlign }) ∧
    (s.palLen.toNat = s.mode.romN → s.width.toNat % s.mode.romPack = 0 → s.outbufBytes.val < len →
      exec (.wrCtrl d) s = .next { cleared with
        frame := .error, errKind := .invalidImageShape, errDetail := .capacity }) ∧
    (s.palLen.toNat = s.mode.romN → s.width.toNat % s.mode.romPack = 0 → len ≤ s.outbufBytes.val →
      ∃ t, exec (.wrCtrl d) s = .next t ∧
        t = { cleared with frame := .busy, outLen := t.outLen, outbuf := t.outbuf } ∧
        t.outLen.toNat = len ∧ (∀ a, t.outbuf.read a = 0) ∧ t.outbuf.wf = true)

/-! ## Reads and ignored writes -/

/-- R118, R120, R146-R150: a read of a configuration register or of INTEN answers its fields and changes nothing else. -/
def Obligations.ConfigurationReads : Prop :=
  DecodesAs 0x0000000800000000 (fun _ => .rdMode) ∧ DecodesAs 0x0000000C00000000 (fun _ => .rdWidth) ∧
  DecodesAs 0x0000001000000000 (fun _ => .rdHeight) ∧ DecodesAs 0x0000001400000000 (fun _ => .rdPlanes) ∧
  DecodesAs 0x0000001800000000 (fun _ => .rdPalLen) ∧ DecodesAs 0x0000001C00000000 (fun _ => .rdInten) ∧
  (∀ n : Code, DecodesAs (0x0000004000000000 ||| n.setWidth 64 <<< 34) (fun _ => .rdPal n)) ∧
  ∀ s : State,
    exec .rdMode s = .next { s with
      rdata := some (match s.mode with | .sevenColour => 0 | .rwb => 1 | .rwb4 => 2) } ∧
    exec .rdWidth s = .next { s with rdata := some (s.width.setWidth 32) } ∧
    exec .rdHeight s = .next { s with rdata := some (s.height.setWidth 32) } ∧
    exec .rdPlanes s = .next { s with rdata := some s.planes } ∧
    exec .rdPalLen s = .next { s with rdata := some (s.palLen.setWidth 32) } ∧
    exec .rdInten s = .next { s with rdata := some (s.inten.setWidth 32) } ∧
    ∀ n, exec (.rdPal n) s = .next { s with rdata := some ((s.palEntry n).setWidth 32) }

/-- R145, R25, R45: STATUS reads STATE, DROPPED, IRQ, ERR_KIND and ERR_DETAIL in their places, [31:12] as 0. -/
def Obligations.StatusRead : Prop :=
  DecodesAs 0x0000000400000000 (fun _ => .rdStatus) ∧
  ∀ s : State, ∃ v : Word, exec .rdStatus s = .next { s with rdata := some v } ∧
    v.extractLsb' 0 2 = (match s.frame with | .idle => 0 | .busy => 1 | .done => 2 | .error => 3) ∧
    v.getLsbD 2 = s.dropped ∧
    (v.getLsbD 3 = true ↔
      (s.frame = .done ∧ s.inten.getLsbD 0 = true) ∨ (s.frame = .error ∧ s.inten.getLsbD 1 = true)) ∧
    v.extractLsb' 4 4 =
      (match s.errKind with
        | .none => 0 | .invalidPalette => 1 | .invalidImageShape => 2 | .unknownColor => 3) ∧
    v.extractLsb' 8 4 =
      (match s.errDetail with
        | .none => 0 | .widthAlign => 1 | .capacity => 2 | .rowTooLong => 3 | .rowTooShort => 4 | .tooManyRows => 5
        | .tooFewRows => 6) ∧
    v.extractLsb' 12 20 = 0

/-- R151, R152, R153: OUT_LEN, ERR_POS and ERR_RGB, with the values their corner cases give in a state of the invariant. -/
def Obligations.ResultAndDiagnosticReads : Prop :=
  DecodesAs 0x0000002000000000 (fun _ => .rdOutLen) ∧ DecodesAs 0x0000002400000000 (fun _ => .rdErrPos) ∧
  DecodesAs 0x0000002800000000 (fun _ => .rdErrRgb) ∧
  ∀ s : State,
    exec .rdOutLen s = .next { s with rdata := some s.outLen } ∧
    exec .rdErrPos s = .next { s with rdata := some (s.errY ++ s.errX) } ∧
    exec .rdErrRgb s = .next { s with rdata := some (s.errRgb.setWidth 32) } ∧
    (s.Inv →
      (s.frame = .idle ∨ s.frame = .error → exec .rdOutLen s = .next { s with rdata := some 0 }) ∧
      (s.frame = .busy → s.outLen.toNat = s.frameBytes) ∧
      (s.frame ≠ .error → exec .rdErrPos s = .next { s with rdata := some 0 }) ∧
      (s.errKind ≠ .unknownColor → exec .rdErrRgb s = .next { s with rdata := some 0 }))

/-- R35, R36, R154, R155 (not R154's corner case, log entry 10): POS and ACC. -/
def Obligations.PositionAndAccumulatorReads : Prop :=
  DecodesAs 0x0000002C00000000 (fun _ => .rdPos) ∧ DecodesAs 0x0000003000000000 (fun _ => .rdAcc) ∧
  ∀ s : State,
    exec .rdPos s = .next { s with rdata := some (s.y ++ s.x) } ∧
    exec .rdAcc s = .next { s with rdata := some (0#16 ++ s.acc1 ++ s.acc0) }

/-- R37, R156: CAPS reads OUTBUF_BYTES, and no step changes it. -/
def Obligations.CapacityIsReadAndConstant : Prop :=
  DecodesAs 0x0000003400000000 (fun _ => .rdCaps) ∧
  (∀ s : State, ∃ v : Word, exec .rdCaps s = .next { s with rdata := some v } ∧ v.toNat = s.outbufBytes.val) ∧
  ∀ s t : State, step s = .next t → t.outbufBytes = s.outbufBytes

/-- R71, R157: an OUT read answers the addressed byte zero-extended, 0 at or above OUTBUF_BYTES, in every STATE. -/
def Obligations.OutputReads : Prop :=
  (∀ a : Addr, DecodesAs (0x8000000000000000 ||| a.setWidth 64 <<< 32) (fun _ => .rdOut a)) ∧
  ∀ (s : State) (a : Addr),
    (a.toNat < s.outbufBytes.val →
      exec (.rdOut a) s = .next { s with rdata := some ((s.outbuf.read a.toNat).setWidth 32) }) ∧
    (s.outbufBytes.val ≤ a.toNat → exec (.rdOut a) s = .next { s with rdata := some 0 })

/-- R160, R163-R170: a write to a read-only register or to the OUT space changes no state and sets no flag. -/
def Obligations.ReadOnlyWritesAreIgnored : Prop :=
  DecodesAs 0x4000000400000000 .wrStatus ∧ DecodesAs 0x4000002000000000 .wrOutLen ∧
  DecodesAs 0x4000002400000000 .wrErrPos ∧ DecodesAs 0x4000002800000000 .wrErrRgb ∧
  DecodesAs 0x4000002C00000000 .wrPos ∧ DecodesAs 0x4000003000000000 .wrAcc ∧ DecodesAs 0x4000003400000000 .wrCaps ∧
  (∀ a : Addr, DecodesAs (0xC000000000000000 ||| a.setWidth 64 <<< 32) (.wrOut a)) ∧
  ∀ (s : State) (d : Word) (a : Addr),
    exec (.wrStatus d) s = .next s ∧ exec (.wrOutLen d) s = .next s ∧ exec (.wrErrPos d) s = .next s ∧
    exec (.wrErrRgb d) s = .next s ∧ exec (.wrPos d) s = .next s ∧ exec (.wrAcc d) s = .next s ∧
    exec (.wrCaps d) s = .next s ∧ exec (.wrOut a d) s = .next s

/-- R161, R171-R174: a read of a write-only register answers 0 and changes nothing else. -/
def Obligations.WriteOnlyReadsAnswerZero : Prop :=
  DecodesAs 0x0000000000000000 (fun _ => .rdCtrl) ∧ DecodesAs 0x0000006000000000 (fun _ => .rdPixel) ∧
  DecodesAs 0x0000006400000000 (fun _ => .rdRowEnd) ∧ DecodesAs 0x0000006800000000 (fun _ => .rdFrameEnd) ∧
  ∀ s : State,
    exec .rdCtrl s = .next { s with rdata := some 0 } ∧ exec .rdPixel s = .next { s with rdata := some 0 } ∧
    exec .rdRowEnd s = .next { s with rdata := some 0 } ∧ exec .rdFrameEnd s = .next { s with rdata := some 0 }

/-- R76: "No read has a side effect": a word with WE = 0 forms a response and changes nothing else, reserved reads included. -/
def Obligations.ReadsHaveNoSideEffect : Prop :=
  ∀ (s : State) (T : TxnWord) (rest : List PortEvent), s.port = .txn T :: rest → T.getLsbD 62 = false →
    ∃ v : Word, step s = .next { s with port := rest, rdata := some v }

/-! ## The pixel stream -/

/-- R180, with R181, R185, R210, R211, R214 and R215: a PIXEL outside BUSY is dropped; in BUSY the checks run in the order row
count, row length, colour, and the first that fails enters ERROR with its kind, detail, position and key; a PIXEL that passes them
shifts its fields in, stores the finished bytes of each plane where it completes a byte, and advances X. Every other byte of OUTBUF
reads as before and nothing else changes. The conjuncts on the fill and the canonical form of OUTBUF are the model's choice of a form
for memory (log entry 3), and the premise that the offsets are below OUTBUF_BYTES is the model's fault for other stores (log entry 8). -/
def Obligations.PixelWrite : Prop :=
  DecodesAs 0x4000006000000000 .wrPixel ∧
  ∀ (s : State) (d : Word),
    (s.frame ≠ .busy → exec (.wrPixel d) s = .next { s with dropped := true }) ∧
    (s.frame = .busy → s.y = s.height → exec (.wrPixel d) s = .next { s with
      frame := .error, errKind := .invalidImageShape, errDetail := .tooManyRows, errX := s.x, errY := s.y,
      errRgb := 0, outLen := 0 }) ∧
    (s.frame = .busy → s.y ≠ s.height → s.x = s.width → exec (.wrPixel d) s = .next { s with
      frame := .error, errKind := .invalidImageShape, errDetail := .rowTooLong, errX := s.x, errY := s.y,
      errRgb := 0, outLen := 0 }) ∧
    (s.frame = .busy → s.y ≠ s.height → s.x ≠ s.width →
      (∀ i : Code, i.toNat < s.mode.romN → s.palEntry i ≠ d.extractLsb' 8 24) → exec (.wrPixel d) s = .next { s with
        frame := .error, errKind := .unknownColor, errDetail := .none, errX := s.x, errY := s.y,
        errRgb := d.extractLsb' 8 24, outLen := 0 }) ∧
    ∀ c : Code, s.frame = .busy → s.y ≠ s.height → s.x ≠ s.width → s.classify (d.extractLsb' 8 24) = some c →
      let pack := s.mode.romPack
      let plane := (s.height.toNat * s.width.toNat) / pack
      let idx := (s.y.toNat * s.width.toNat + s.x.toNat) / pack
      let a0 := (s.acc0 <<< s.mode.romFb) ||| (s.mode.romField0 c).setWidth 8
      let a1 := if s.mode.romPlanes = 2 then (s.acc1 <<< s.mode.romFb) ||| (s.mode.romField1 c).setWidth 8 else s.acc1
      (s.x.toNat % pack ≠ pack - 1 → exec (.wrPixel d) s = .next { s with x := s.x + 1, acc0 := a0, acc1 := a1 }) ∧
      (s.x.toNat % pack = pack - 1 → idx < s.outbufBytes.val →
        (s.mode.romPlanes = 2 → plane + idx < s.outbufBytes.val) →
        ∃ t, exec (.wrPixel d) s = .next t ∧
          t = { s with x := s.x + 1, acc0 := a0, acc1 := a1, outbuf := t.outbuf } ∧ t.outbuf.fill = s.outbuf.fill ∧
          (s.outbuf.wf = true → t.outbuf.wf = true) ∧
          ∀ a, t.outbuf.read a =
            if s.mode.romPlanes = 2 ∧ a = plane + idx then a1 else if a = idx then a0 else s.outbuf.read a)

/-- R190: ROW_END, dropped, failing either check, or accepted. -/
def Obligations.RowEndWrite : Prop :=
  DecodesAs 0x4000006400000000 .wrRowEnd ∧
  ∀ (s : State) (d : Word),
    (s.frame ≠ .busy → exec (.wrRowEnd d) s = .next { s with dropped := true }) ∧
    (s.frame = .busy → s.y = s.height → exec (.wrRowEnd d) s = .next { s with
      frame := .error, errKind := .invalidImageShape, errDetail := .tooManyRows, errX := s.x, errY := s.y,
      errRgb := 0, outLen := 0 }) ∧
    (s.frame = .busy → s.y ≠ s.height → s.x ≠ s.width → exec (.wrRowEnd d) s = .next { s with
      frame := .error, errKind := .invalidImageShape, errDetail := .rowTooShort, errX := s.x, errY := s.y,
      errRgb := 0, outLen := 0 }) ∧
    (s.frame = .busy → s.y ≠ s.height → s.x = s.width → exec (.wrRowEnd d) s = .next { s with
      y := s.y + 1, x := 0, acc0 := 0, acc1 := 0 })

/-- R195: FRAME_END, dropped, failing its check, or accepted; OUT_LEN and OUTBUF unchanged when accepted. -/
def Obligations.FrameEndWrite : Prop :=
  DecodesAs 0x4000006800000000 .wrFrameEnd ∧
  ∀ (s : State) (d : Word),
    (s.frame ≠ .busy → exec (.wrFrameEnd d) s = .next { s with dropped := true }) ∧
    (s.frame = .busy → s.y ≠ s.height → exec (.wrFrameEnd d) s = .next { s with
      frame := .error, errKind := .invalidImageShape, errDetail := .tooFewRows, errX := s.x, errY := s.y,
      errRgb := 0, outLen := 0 }) ∧
    (s.frame = .busy → s.y = s.height → exec (.wrFrameEnd d) s = .next { s with frame := .done })

/-- R182, R184: in a nibble mode two pixels make the byte (F(c_e) << 4) | F(c_o), whatever ACC0 held before. -/
def Obligations.NibbleByteForgetsOldBits : Prop :=
  ∀ (s : State) (ce co : Code), s.mode ≠ .rwb → ce.toNat < s.mode.romN → co.toNat < s.mode.romN →
    ((s.accumulate ce).accumulate co).acc0 = (s.mode.nibbleOf ce <<< 4) ||| s.mode.nibbleOf co ∧
    ((s.accumulate ce).accumulate co).acc1 = s.acc1

/-- R183: in RWB eight pixels make the BW and the Red byte, the first pixel at bit 7, whatever the accumulators held before. -/
def Obligations.PlaneBytesForgetOldBits : Prop :=
  ∀ (s : State) (cs : List Code), s.mode = .rwb → cs.length = 8 → (∀ c ∈ cs, c.toNat < 3) →
    ∀ j < 8,
      (cs.foldl State.accumulate s).acc0.getLsbD (7 - j) = bwBit (cs.getD j 0) ∧
      (cs.foldl State.accumulate s).acc1.getLsbD (7 - j) = redBit (cs.getD j 0)

/-! ## Whole-machine rules -/

/-- R216, with R215: a stream write that enters ERROR from BUSY records X and Y and changes only what error entry writes; a START
that fails has cleared the frame bookkeeping besides, and leaves OUTBUF as it was. -/
def Obligations.ErrorsArePrecise : Prop :=
  (∀ (s t : State) (i : Instr), i.isStream = true → s.frame = .busy → exec i s = .next t → t.frame = .error →
    t = { s with
      frame := .error, errKind := t.errKind, errDetail := t.errDetail, errX := s.x, errY := s.y, errRgb := t.errRgb,
      outLen := 0 } ∧
    t.errKind ≠ .none ∧ t.errKind.admits t.errDetail = true ∧ (t.errKind ≠ .unknownColor → t.errRgb = 0)) ∧
  (∀ (s t : State) (d : Word), d.getLsbD 1 = false → d.getLsbD 0 = true → exec (.wrCtrl d) s = .next t → t.frame = .error →
    t = { s with
      frame := .error, dropped := false, errKind := t.errKind, errDetail := t.errDetail, errX := 0, errY := 0, errRgb := 0,
      x := 0, y := 0, acc0 := 0, acc1 := 0, outLen := 0 } ∧
    t.errKind ≠ .none ∧ t.errKind.admits t.errDetail = true)

/-- R42: each line of the transition table of STATE, and "No other event changes STATE". -/
def Obligations.OnlyListedEventsChangeState : Prop :=
  (∀ (s t : State) (rest : List PortEvent), s.port = .reset :: rest → step s = .next t → t.frame = .idle) ∧
  (∀ (s t : State) (T : TxnWord) (rest : List PortEvent) (d : Word), s.port = .txn T :: rest →
    decode T = .ok (.wrCtrl d) → step s = .next t →
    (d.getLsbD 1 = true → t.frame = .idle) ∧
    (d.getLsbD 1 = false → d.getLsbD 0 = true → (s.acceptsFrame → t.frame = .busy) ∧ (¬ s.acceptsFrame → t.frame = .error))) ∧
  (∀ (s t : State) (T : TxnWord) (rest : List PortEvent) (d : Word), s.port = .txn T :: rest →
    decode T = .ok (.wrFrameEnd d) → step s = .next t → s.frame = .busy → s.y = s.height → t.frame = .done) ∧
  ∀ s t : State, step s = .next t → t.frame ≠ s.frame →
    (∃ rest, s.port = .reset :: rest ∧ t.frame = .idle) ∨
    ∃ T rest i, s.port = .txn T :: rest ∧ decode T = .ok i ∧
      ((∃ d : Word, i = .wrCtrl d ∧ d.getLsbD 1 = true ∧ t.frame = .idle) ∨
       (∃ d : Word, i = .wrCtrl d ∧ d.getLsbD 1 = false ∧ d.getLsbD 0 = true ∧
          ((s.acceptsFrame ∧ t.frame = .busy) ∨ (¬ s.acceptsFrame ∧ t.frame = .error))) ∨
       (∃ d : Word, i = .wrFrameEnd d ∧ s.frame = .busy ∧ s.y = s.height ∧ t.frame = .done) ∨
       (i.isStream = true ∧ s.frame = .busy ∧ t.frame = .error ∧ t.errKind ≠ .none))

/-- R48, R82: while a frame runs, no transaction changes a configuration register. -/
def Obligations.ConfigurationFixedInBusy : Prop :=
  ∀ (s t : State) (T : TxnWord) (rest : List PortEvent), s.frame = .busy → s.port = .txn T :: rest → step s = .next t →
    t.mode = s.mode ∧ t.width = s.width ∧ t.height = s.height ∧ t.planes = s.planes ∧ t.palLen = s.palLen ∧
    t.pal = s.pal

/-- R135: exactly the two kinds of write are dropped, with no other change; DROPPED stays until START, ABORT or reset. -/
def Obligations.DroppedIsSticky : Prop :=
  (∀ (s : State) (i : Instr), (i.isConfigWrite = true ∧ s.frame = .busy) ∨ (i.isStream = true ∧ s.frame ≠ .busy) →
    exec i s = .next { s with dropped := true }) ∧
  (∀ s t : State, step s = .next t → s.dropped = false → t.dropped = true →
    ∃ T rest i, s.port = .txn T :: rest ∧ decode T = .ok i ∧
      ((i.isConfigWrite = true ∧ s.frame = .busy) ∨ (i.isStream = true ∧ s.frame ≠ .busy))) ∧
  (∀ s t : State, step s = .next t → s.dropped = true → t.dropped = false →
    (∃ rest, s.port = .reset :: rest) ∨
    ∃ T rest d, s.port = .txn T :: rest ∧ decode T = .ok (.wrCtrl d) ∧ (d.getLsbD 0 = true ∨ d.getLsbD 1 = true))

/-- R46, R71, R185: a byte of OUTBUF changes only by a reset, by an accepted START, or by the writer, inside a PIXEL of a running
frame that completes a byte, at the offset the writer computes for its plane. -/
def Obligations.OnlyWriterStoresOutput : Prop :=
  ∀ (s t : State) (a : Nat), step s = .next t → t.outbuf.read a ≠ s.outbuf.read a →
    (∃ rest, s.port = .reset :: rest) ∨
    ∃ T rest i, s.port = .txn T :: rest ∧ decode T = .ok i ∧
      ((∃ d : Word, i = .wrCtrl d ∧ d.getLsbD 1 = false ∧ d.getLsbD 0 = true ∧ s.acceptsFrame ∧ t.frame = .busy) ∨
       (∃ d : Word, i = .wrPixel d ∧ s.frame = .busy ∧ s.x.toNat % s.mode.romPack = s.mode.romPack - 1 ∧
          (a = s.byteIndex ∨ (s.mode.romPlanes = 2 ∧ a = s.planeBytes + s.byteIndex))))

/-- R9, R240: what OUTBUF held takes no part in any transaction but an OUT read, and an accepted START makes the contents of OUTBUF
the same whatever they were. -/
def Obligations.ResetBytesNeverLeak : Prop :=
  ∀ (s t s' : State) (T : TxnWord), s.agrees t → (∀ a, decode T ≠ .ok (.rdOut a)) → perform T s = .next s' →
    ∃ t', perform T t = .next t' ∧ s'.agrees t' ∧
      (∀ d, decode T = .ok (.wrCtrl d) → d.getLsbD 1 = false → d.getLsbD 0 = true → s'.frame = .busy →
        s'.outbuf = t'.outbuf)

/-! ## Frames -/

/-- R186: a frame whose START is accepted, whose image has the declared shape and whose pixels all match the palette completes,
whatever reads stand between its writes, and OUTBUF holds exactly the packed image: nibbles in 7C and RWB4, the BW plane and then
the Red plane in RWB, 0x00 at OUT_LEN and above. -/
def Obligations.FramePacksWholeImage : Prop :=
  ∀ (s : State) (image : List (List Word)) (events : List PortEvent), s.acceptsFrame → s.imageMatches image →
    events.filter (fun e => !e.isRead) = frameEvents image →
    ∃ t, Host.Core.run Sys2Proof.core events.length { s with port := events } = .next t ∧
      t.frame = .done ∧ t.outLen.toNat = s.frameBytes ∧
      (s.mode ≠ .rwb → ∀ y < s.height.toNat, ∀ x < s.width.toNat, x % 2 = 0 →
        t.outbuf.read ((y * s.width.toNat + x) / 2) =
          (s.mode.nibbleOf (s.codeAt image x y) <<< 4) ||| s.mode.nibbleOf (s.codeAt image (x + 1) y)) ∧
      (s.mode = .rwb → ∀ y < s.height.toNat, ∀ x < s.width.toNat, x % 8 = 0 → ∀ j < 8,
        (t.outbuf.read ((y * s.width.toNat + x) / 8)).getLsbD (7 - j) = bwBit (s.codeAt image (x + j) y) ∧
        (t.outbuf.read (s.height.toNat * s.width.toNat / 8 + (y * s.width.toNat + x) / 8)).getLsbD (7 - j) =
          redBit (s.codeAt image (x + j) y)) ∧
      ∀ a, s.frameBytes ≤ a → t.outbuf.read a = 0
end

