-- ==== Sys2Proof/Laws/Decode.lean ====
section
/-! SUPPORT. The word format and the register map, each way round (30_encoding.md R90, R92; 10_state.md R23). -/

namespace Sys2Proof

theorem Txn.word_getLsbD (t : Txn) (k : Nat) :
    t.word.getLsbD k =
      if k < 32 then t.data.getLsbD k
      else if k < 62 then t.addr.getLsbD (k - 32)
      else if k = 62 then t.we
      else if k = 63 then t.sp else false := by
  simp only [Txn.word, BitVec.getLsbD_append, BitVec.getLsbD_ofBool]
  by_cases h1 : k < 32
  · simp [h1]
  · by_cases h2 : k < 62
    · simp [h1, h2, show k - 32 < 30 by omega]
    · by_cases h3 : k = 62
      · simp [h3]
      · by_cases h4 : k = 63
        · simp [h4]
        · have : k - 32 - 30 - 1 ≠ 0 := by omega
          simp [h1, h2, h3, h4, show ¬ k - 32 < 30 by omega, show ¬ k - 32 - 30 < 1 by omega, this]

/-- Fields, word, and back to the same fields. -/
@[simp] theorem Txn.ofWord_word (t : Txn) : Txn.ofWord t.word = t := by
  obtain ⟨sp, we, addr, data⟩ := t
  simp only [Txn.ofWord, Txn.mk.injEq]
  refine ⟨(Txn.word_getLsbD _ 63).trans (by simp), (Txn.word_getLsbD _ 62).trans (by simp), ?_, ?_⟩
  · ext k hk
    simp [BitVec.getElem_extractLsb', Txn.word_getLsbD, hk, show 32 + k < 62 by omega]
  · ext k hk
    simp [BitVec.getElem_extractLsb', Txn.word_getLsbD, hk]

/-- A word is the word of its fields: no bit of it is lost. -/
@[simp] theorem Txn.word_ofWord (T : TxnWord) : (Txn.ofWord T).word = T := by
  apply BitVec.eq_of_getLsbD_eq
  intro k hk
  rw [Txn.word_getLsbD]
  simp only [Txn.ofWord, BitVec.getLsbD_extractLsb']
  by_cases h1 : k < 32
  · simp [h1]
  · by_cases h2 : k < 62
    · simp [h1, h2, show k - 32 < 30 by omega, show 32 + (k - 32) = k by omega]
    · by_cases h3 : k = 62
      · simp [h3]
      · simp [show k = 63 by omega]

theorem Txn.ofWord_inj {T U : TxnWord} (h : Txn.ofWord T = Txn.ofWord U) : T = U := by
  rw [← Txn.word_ofWord T, h, Txn.word_ofWord]

/-- DATA laid over a pattern whose [31:0] are 0 changes the DATA field alone. -/
theorem Txn.ofWord_or_data (p : TxnWord) (d : Word) (hp : p.extractLsb' 0 32 = 0) :
    Txn.ofWord (p ||| d.setWidth 64) = { Txn.ofWord p with data := d } := by
  simp only [Txn.ofWord, Txn.mk.injEq]
  refine ⟨by simp, by simp, ?_, ?_⟩
  · ext k hk
    simp [BitVec.getElem_extractLsb']
  · rw [BitVec.extractLsb'_or, hp]
    ext k hk
    simp [BitVec.getElem_extractLsb', hk, show k < 64 by omega]

/-- The register map of R23 read by offset. -/
@[simp] theorem Reg.ofOffset_offset (r : Reg) : Reg.ofOffset r.offset = some r := by
  cases r with
  | pal n => revert n; decide
  | _ => decide

theorem Reg.offset_of_ofOffset {off : Byte} {r : Reg} (h : Reg.ofOffset off = some r) : r.offset = off := by
  have key : ∀ off : Byte, (match Reg.ofOffset off with | some r => r.offset == off | none => true) = true := by decide
  have := key off
  rw [h] at this
  simpa using this

/-- Every register offset is word-aligned (R70). -/
theorem Reg.offset_aligned (r : Reg) : r.offset.extractLsb' 0 2 = 0#2 := by
  cases r with
  | pal n => revert n; decide
  | _ => decide

/-- The offsets that name no register (R97), among the aligned ones. -/
theorem Reg.ofOffset_eq_none_iff {off : Byte} (ha : off.extractLsb' 0 2 = 0#2) :
    Reg.ofOffset off = none ↔ off = 0x38 ∨ off = 0x3C ∨ 0x6C ≤ off.toNat := by
  have key : ∀ off : Byte, off.extractLsb' 0 2 = 0#2 →
      ((Reg.ofOffset off).isNone = true ↔ off = 0x38 ∨ off = 0x3C ∨ 0x6C ≤ off.toNat) := by decide
  simpa using key off ha

/-- What the decoder can answer: an OUT operation, a register operation, or a reserved access. -/
theorem Txn.decode_cases (t : Txn) :
    (t.sp = true ∧ t.decode = .ok (if t.we then .wrOut t.addr t.data else .rdOut t.addr)) ∨
    (t.sp = false ∧ ∃ r : Reg, t.addr = r.offset.setWidth 30 ∧ t.decode = .ok (r.operation t.we t.data)) ∨
    (t.sp = false ∧ t.decode = .error ⟨t.we, t.addr, t.data⟩ ∧
      (t.addr.extractLsb' 8 22 ≠ 0 ∨ t.addr.extractLsb' 0 2 ≠ 0 ∨ Reg.ofOffset (t.addr.extractLsb' 0 8) = none)) := by
  by_cases hs : t.sp = true
  · exact .inl ⟨hs, by simp [Txn.decode, hs]⟩
  · have hs' : t.sp = false := by simpa using hs
    by_cases hr : t.addr.extractLsb' 8 22 ≠ 0#22 ∨ t.addr.extractLsb' 0 2 ≠ 0#2
    · refine .inr (.inr ⟨hs', by simp only [Txn.decode, hs', Bool.false_eq_true, if_false, if_pos hr], ?_⟩)
      exact hr.imp id .inl
    · cases ho : Reg.ofOffset (t.addr.extractLsb' 0 8) with
      | none =>
        exact .inr (.inr ⟨hs', by simp only [Txn.decode, hs', Bool.false_eq_true, if_false, if_neg hr, ho], .inr (.inr rfl)⟩)
      | some r =>
        refine .inr (.inl ⟨hs', r, ?_, by simp only [Txn.decode, hs', Bool.false_eq_true, if_false, if_neg hr, ho]⟩)
        have hoff := Reg.offset_of_ofOffset ho
        have hz : t.addr.extractLsb' 8 22 = 0 := by
          by_contra hne
          exact hr (.inl hne)
        rw [hoff]
        apply BitVec.eq_of_getLsbD_eq
        intro k hk
        by_cases h8 : k < 8
        · simp [h8, hk]
        · have := congrArg (fun b => b.getLsbD (k - 8)) hz
          simp [show k - 8 < 22 by omega, show 8 + (k - 8) = k by omega] at this
          simp [h8, this]

/-- The checks of R97 refuse exactly the transactions the decoder of R102 calls reserved. -/
theorem Txn.wellFormed_iff (t : Txn) : t.wellFormed = true ↔ ∃ i, t.decode = .ok i := by
  have key : ∀ off : Byte, off.extractLsb' 0 2 = 0#2 →
      ((off.toNat != 0x38 && off.toNat != 0x3C && decide (off.toNat < 0x6C)) = (Reg.ofOffset off).isSome) := by decide
  have halign : t.addr.extractLsb' 0 2 = (t.addr.extractLsb' 0 8).extractLsb' 0 2 := by
    ext k hk
    simp [BitVec.getElem_extractLsb']
  cases hs : t.sp with
  | true => simp [Txn.wellFormed, Txn.decode, hs]
  | false =>
    by_cases h8 : t.addr.extractLsb' 8 22 = 0#22
    · by_cases h2 : t.addr.extractLsb' 0 2 = 0#2
      · have hk := key (t.addr.extractLsb' 0 8) (by rw [← halign]; exact h2)
        cases ho : Reg.ofOffset (t.addr.extractLsb' 0 8) <;> rw [ho] at hk <;>
          simp_all [Txn.wellFormed, Txn.inRegSpace, Txn.aligned, Txn.namesRegister, Txn.decode]
      · simp [Txn.wellFormed, Txn.aligned, Txn.decode, hs, h2]
    · simp [Txn.wellFormed, Txn.inRegSpace, Txn.decode, hs, h8]

/-- A register transaction decodes to its row. -/
theorem Txn.decode_reg (r : Reg) (we : Bool) (data : Word) :
    Txn.decode ⟨false, we, r.offset.setWidth 30, data⟩ = .ok (r.operation we data) := by
  have h1 : (r.offset.setWidth 30).extractLsb' 8 22 = 0#22 := by
    cases r with
    | pal n => revert n; decide
    | _ => decide
  have h2 : (r.offset.setWidth 30).extractLsb' 0 2 = 0#2 := by
    cases r with
    | pal n => revert n; decide
    | _ => decide
  have h3 : (r.offset.setWidth 30).extractLsb' 0 8 = r.offset := by
    cases r with
    | pal n => revert n; decide
    | _ => decide
  simp [Txn.decode, h1, h2, h3]

/-- An OUT transaction decodes to its row. -/
theorem Txn.decode_out (we : Bool) (a : Addr) (data : Word) :
    Txn.decode ⟨true, we, a, data⟩ = .ok (if we then .wrOut a data else .rdOut a) := by
  simp [Txn.decode]

/-- No two rows of the opcode map overlap: "the REG rows differ in bits [63:62] or [39:34], and SP separates REG from OUT" (R96). -/
theorem opcodeTable_disjoint :
    opcodeTable.Pairwise fun r r' => (r.pattern ^^^ r'.pattern) &&& r.mask &&& r'.mask ≠ 0 := by decide

/-- Every operation's row stands in the opcode map. -/
theorem Instr.row_mem (i : Instr) : i.row ∈ opcodeTable := by
  cases i <;> simp [opcodeTable, opcodeOperations, Instr.row]

end Sys2Proof
end

