-- ==== Sys2Proof/Laws/Memory.lean ====
section
/-! SUPPORT. OUTBUF as memory: a read after a write, the canonical form kept by every operation, and equal contents in equal data. -/

namespace Sys2Proof.Machine

/-! ## Cell lists -/

theorem cellAt_dropCell (a b : Nat) (cs : List Host.Cell) :
    cellAt b (dropCell a cs) = if b = a then none else cellAt b cs := by
  induction cs with
  | nil => simp [dropCell, cellAt]
  | cons c cs ih =>
    by_cases h : c.1 = a
    · by_cases hb : b = a <;> simp_all [dropCell, cellAt, eq_comm]
    · by_cases hb : b = a
      · simp_all [dropCell, cellAt]
      · by_cases hc : c.1 = b <;> simp_all [dropCell, cellAt]

theorem cellAt_insertCell (a b : Nat) (v : Byte) (cs : List Host.Cell) (h : cellAt a cs = none) :
    cellAt b (insertCell a v cs) = if b = a then some v else cellAt b cs := by
  induction cs with
  | nil => by_cases hb : a = b <;> simp [insertCell, cellAt, hb, eq_comm]
  | cons c cs ih =>
    have hc : c.1 ≠ a := by
      intro e
      simp [cellAt, e] at h
    have ht : cellAt a cs = none := by simpa [cellAt, hc] using h
    by_cases hlt : a < c.1
    · by_cases hb : b = a
      · simp [insertCell, cellAt, hlt, hb]
      · simp [insertCell, cellAt, hlt, hb, Ne.symm hb]
    · by_cases hcb : c.1 = b
      · have : b ≠ a := fun e => hc (hcb.trans e)
        rw [insertCell, if_neg hlt, cellAt, if_pos hcb, if_neg this, cellAt, if_pos hcb]
      · rw [insertCell, if_neg hlt, cellAt, if_neg hcb, ih ht, cellAt, if_neg hcb]

theorem mem_dropCell {a : Nat} {c : Host.Cell} {cs : List Host.Cell} (h : c ∈ dropCell a cs) : c ∈ cs ∧ c.1 ≠ a := by
  induction cs with
  | nil => simp [dropCell] at h
  | cons d cs ih =>
    by_cases hd : d.1 = a
    · rw [dropCell, if_pos hd] at h
      exact ⟨List.mem_cons_of_mem _ (ih h).1, (ih h).2⟩
    · rw [dropCell, if_neg hd] at h
      rcases List.mem_cons.1 h with rfl | h
      · exact ⟨List.mem_cons_self .., hd⟩
      · exact ⟨List.mem_cons_of_mem _ (ih h).1, (ih h).2⟩

theorem mem_insertCell {a : Nat} {v : Byte} {c : Host.Cell} {cs : List Host.Cell} (h : c ∈ insertCell a v cs) :
    c = (a, v) ∨ c ∈ cs := by
  induction cs with
  | nil => simpa [insertCell] using h
  | cons d cs ih =>
    by_cases hd : a < d.1
    · rw [insertCell, if_pos hd] at h
      rcases List.mem_cons.1 h with h | h
      · exact .inl h
      · exact .inr h
    · rw [insertCell, if_neg hd] at h
      rcases List.mem_cons.1 h with rfl | h
      · exact .inr (List.mem_cons_self ..)
      · exact (ih h).imp id (List.mem_cons_of_mem _)

/-! ## Reading -/

@[simp] theorem Memory.read_cleared (a : Nat) : Memory.cleared.read a = 0 := rfl

/-- A read after a write, to the same byte or another. -/
@[simp] theorem Memory.read_write (m : Memory) (a b : Nat) (v : Byte) :
    (m.write a v).read b = if b = a then v else m.read b := by
  by_cases hv : v = m.fill.byte a
  · by_cases hb : b = a
    · subst hb
      simp [Memory.read, Memory.write, cellAt_dropCell, hv]
    · simp [Memory.read, Memory.write, cellAt_dropCell, hv, hb]
  · have hn : cellAt a (dropCell a m.cells) = none := by simp [cellAt_dropCell]
    by_cases hb : b = a
    · simp [Memory.read, Memory.write, hv, cellAt_insertCell _ _ _ _ hn, hb]
    · simp [Memory.read, Memory.write, hv, cellAt_insertCell _ _ _ _ hn, cellAt_dropCell, hb]

@[simp] theorem Memory.write_fill (m : Memory) (a : Nat) (v : Byte) : (m.write a v).fill = m.fill := rfl

/-- Every cell after a write was there before, or is the byte written. -/
theorem Memory.mem_write {m : Memory} {a : Nat} {v : Byte} {c : Host.Cell} (h : c ∈ (m.write a v).cells) :
    c = (a, v) ∨ c ∈ m.cells := by
  by_cases hv : v = m.fill.byte a
  · rw [Memory.write, if_pos hv] at h
    exact .inr (mem_dropCell h).1
  · rw [Memory.write, if_neg hv] at h
    exact (mem_insertCell h).imp id fun h => (mem_dropCell h).1

/-! ## The canonical form -/

theorem cellsWf_cons (f : Fill) (lo : Nat) (c : Host.Cell) (cs : List Host.Cell) :
    cellsWf f lo (c :: cs) = true ↔ lo ≤ c.1 ∧ c.2 ≠ f.byte c.1 ∧ cellsWf f (c.1 + 1) cs = true := by
  simp [cellsWf, and_assoc]

theorem cellsWf_mono {f : Fill} {lo lo' : Nat} {cs : List Host.Cell} (hle : lo' ≤ lo) (h : cellsWf f lo cs = true) :
    cellsWf f lo' cs = true := by
  cases cs with
  | nil => rfl
  | cons c cs =>
    rw [cellsWf_cons] at h ⊢
    exact ⟨hle.trans h.1, h.2⟩

theorem dropCell_wf {f : Fill} {lo a : Nat} {cs : List Host.Cell} (h : cellsWf f lo cs = true) :
    cellsWf f lo (dropCell a cs) = true := by
  induction cs generalizing lo with
  | nil => rfl
  | cons c cs ih =>
    rw [cellsWf_cons] at h
    by_cases hc : c.1 = a
    · rw [dropCell, if_pos hc]
      exact cellsWf_mono (by omega) (ih h.2.2)
    · rw [dropCell, if_neg hc, cellsWf_cons]
      exact ⟨h.1, h.2.1, ih h.2.2⟩

theorem insertCell_wf {f : Fill} {lo a : Nat} {v : Byte} {cs : List Host.Cell} (h : cellsWf f lo cs = true)
    (hlo : lo ≤ a) (hv : v ≠ f.byte a) (hn : cellAt a cs = none) : cellsWf f lo (insertCell a v cs) = true := by
  induction cs generalizing lo with
  | nil => simp [insertCell, cellsWf, hlo, hv]
  | cons c cs ih =>
    rw [cellsWf_cons] at h
    have hc : c.1 ≠ a := by
      intro e
      simp [cellAt, e] at hn
    have ht : cellAt a cs = none := by simpa [cellAt, hc] using hn
    by_cases hlt : a < c.1
    · rw [insertCell, if_pos hlt, cellsWf_cons, cellsWf_cons]
      exact ⟨hlo, hv, hlt, h.2⟩
    · rw [insertCell, if_neg hlt, cellsWf_cons]
      exact ⟨h.1, h.2.1, ih h.2.2 (by omega) ht⟩

@[simp] theorem Memory.wf_cleared : Memory.cleared.wf = true := rfl

@[simp] theorem Memory.wf_unlisted (f : Fill) : (⟨f, []⟩ : Memory).wf = true := rfl

/-- Every write keeps the canonical form. -/
theorem Memory.wf_write {m : Memory} (h : m.wf = true) (a : Nat) (v : Byte) : (m.write a v).wf = true := by
  by_cases hv : v = m.fill.byte a
  · simpa [Memory.wf, Memory.write, if_pos hv] using dropCell_wf h
  · have hn : cellAt a (dropCell a m.cells) = none := by simp [cellAt_dropCell]
    simpa [Memory.wf, Memory.write, if_neg hv] using insertCell_wf (dropCell_wf h) (Nat.zero_le a) hv hn

theorem cellAt_lt {f : Fill} {lo a : Nat} {cs : List Host.Cell} (h : cellsWf f lo cs = true) (ha : a < lo) :
    cellAt a cs = none := by
  induction cs generalizing lo with
  | nil => rfl
  | cons c cs ih =>
    rw [cellsWf_cons] at h
    rw [cellAt, if_neg (by omega)]
    exact ih h.2.2 (by omega)

theorem cellAt_ne_fill {f : Fill} {lo a : Nat} {v : Byte} {cs : List Host.Cell} (h : cellsWf f lo cs = true)
    (ha : cellAt a cs = some v) : v ≠ f.byte a := by
  induction cs generalizing lo with
  | nil => simp [cellAt] at ha
  | cons c cs ih =>
    rw [cellsWf_cons] at h
    by_cases hc : c.1 = a
    · simp only [cellAt, if_pos hc, Option.some.injEq] at ha
      subst hc ha
      exact h.2.1
    · rw [cellAt, if_neg hc] at ha
      exact ih h.2.2 ha

theorem cells_ext {f : Fill} {lo : Nat} {cs ds : List Host.Cell} (hc : cellsWf f lo cs = true)
    (hd : cellsWf f lo ds = true) (h : ∀ a, cellAt a cs = cellAt a ds) : cs = ds := by
  induction cs generalizing lo ds with
  | nil =>
    cases ds with
    | nil => rfl
    | cons d ds => simpa [cellAt] using h d.1
  | cons c cs ih =>
    cases ds with
    | nil => simpa [cellAt] using h c.1
    | cons d ds =>
      rw [cellsWf_cons] at hc hd
      have hcd : c.1 = d.1 := by
        rcases Nat.lt_trichotomy c.1 d.1 with hlt | heq | hgt
        · have := h c.1
          rw [cellAt, if_pos rfl, cellAt, if_neg (by omega), cellAt_lt hd.2.2 (by omega)] at this
          simp at this
        · exact heq
        · have := h d.1
          rw [cellAt, if_neg (by omega), cellAt_lt hc.2.2 (by omega), cellAt, if_pos rfl] at this
          simp at this
      have hv : c.2 = d.2 := by
        have := h c.1
        rw [cellAt, if_pos rfl, cellAt, if_pos hcd.symm] at this
        exact Option.some.inj this
      have htail : cs = ds := by
        refine ih hc.2.2 (by rw [hcd]; exact hd.2.2) fun a => ?_
        by_cases ha : a ≤ c.1
        · rw [cellAt_lt hc.2.2 (by omega), cellAt_lt hd.2.2 (by omega)]
        · have := h a
          rwa [cellAt, if_neg (by omega), cellAt, if_neg (by omega)] at this
      rw [htail, Prod.ext hcd hv]

/-- Two canonical memories over one fill that read alike at every address are the same data. -/
theorem Memory.ext_of_read {m n : Memory} (hm : m.wf = true) (hn : n.wf = true) (hf : m.fill = n.fill)
    (h : ∀ a, m.read a = n.read a) : m = n := by
  obtain ⟨f, cs⟩ := m
  obtain ⟨g, ds⟩ := n
  obtain rfl : f = g := hf
  have : cs = ds := by
    refine cells_ext hm hn fun a => ?_
    have ha := h a
    simp only [Memory.read] at ha
    cases hc : cellAt a cs with
    | none =>
      cases hd : cellAt a ds with
      | none => rfl
      | some w => simp [hc, hd] at ha; exact absurd ha.symm (cellAt_ne_fill hn hd)
    | some v =>
      cases hd : cellAt a ds with
      | none => simp [hc, hd] at ha; exact absurd ha (cellAt_ne_fill hm hc)
      | some w => simp [hc, hd] at ha; rw [ha]
  rw [this]

end Sys2Proof.Machine
end

