-- ==== Sys2Proof/Laws/State.lean ====
section
/-! SUPPORT. One lemma per field per state update of Machine/Ops.lean, each true by rfl, so that no proof unfolds a record update. -/

namespace Sys2Proof.Machine

/-! ### respond -/

@[simp] theorem State.respond_frame (s : State) (v : Word) : (s.respond v).frame = s.frame := rfl
@[simp] theorem State.respond_dropped (s : State) (v : Word) : (s.respond v).dropped = s.dropped := rfl
@[simp] theorem State.respond_errKind (s : State) (v : Word) : (s.respond v).errKind = s.errKind := rfl
@[simp] theorem State.respond_errDetail (s : State) (v : Word) : (s.respond v).errDetail = s.errDetail := rfl
@[simp] theorem State.respond_mode (s : State) (v : Word) : (s.respond v).mode = s.mode := rfl
@[simp] theorem State.respond_width (s : State) (v : Word) : (s.respond v).width = s.width := rfl
@[simp] theorem State.respond_height (s : State) (v : Word) : (s.respond v).height = s.height := rfl
@[simp] theorem State.respond_planes (s : State) (v : Word) : (s.respond v).planes = s.planes := rfl
@[simp] theorem State.respond_palLen (s : State) (v : Word) : (s.respond v).palLen = s.palLen := rfl
@[simp] theorem State.respond_pal (s : State) (v : Word) : (s.respond v).pal = s.pal := rfl
@[simp] theorem State.respond_inten (s : State) (v : Word) : (s.respond v).inten = s.inten := rfl
@[simp] theorem State.respond_outLen (s : State) (v : Word) : (s.respond v).outLen = s.outLen := rfl
@[simp] theorem State.respond_errX (s : State) (v : Word) : (s.respond v).errX = s.errX := rfl
@[simp] theorem State.respond_errY (s : State) (v : Word) : (s.respond v).errY = s.errY := rfl
@[simp] theorem State.respond_errRgb (s : State) (v : Word) : (s.respond v).errRgb = s.errRgb := rfl
@[simp] theorem State.respond_x (s : State) (v : Word) : (s.respond v).x = s.x := rfl
@[simp] theorem State.respond_y (s : State) (v : Word) : (s.respond v).y = s.y := rfl
@[simp] theorem State.respond_acc0 (s : State) (v : Word) : (s.respond v).acc0 = s.acc0 := rfl
@[simp] theorem State.respond_acc1 (s : State) (v : Word) : (s.respond v).acc1 = s.acc1 := rfl
@[simp] theorem State.respond_outbuf (s : State) (v : Word) : (s.respond v).outbuf = s.outbuf := rfl
@[simp] theorem State.respond_outbufBytes (s : State) (v : Word) : (s.respond v).outbufBytes = s.outbufBytes := rfl
@[simp] theorem State.respond_draws (s : State) (v : Word) : (s.respond v).draws = s.draws := rfl
@[simp] theorem State.respond_rdata (s : State) (v : Word) : (s.respond v).rdata = some v := rfl
@[simp] theorem State.respond_port (s : State) (v : Word) : (s.respond v).port = s.port := rfl

/-! ### drop -/

@[simp] theorem State.drop_frame (s : State) : s.drop.frame = s.frame := rfl
@[simp] theorem State.drop_dropped (s : State) : s.drop.dropped = true := rfl
@[simp] theorem State.drop_errKind (s : State) : s.drop.errKind = s.errKind := rfl
@[simp] theorem State.drop_errDetail (s : State) : s.drop.errDetail = s.errDetail := rfl
@[simp] theorem State.drop_mode (s : State) : s.drop.mode = s.mode := rfl
@[simp] theorem State.drop_width (s : State) : s.drop.width = s.width := rfl
@[simp] theorem State.drop_height (s : State) : s.drop.height = s.height := rfl
@[simp] theorem State.drop_planes (s : State) : s.drop.planes = s.planes := rfl
@[simp] theorem State.drop_palLen (s : State) : s.drop.palLen = s.palLen := rfl
@[simp] theorem State.drop_pal (s : State) : s.drop.pal = s.pal := rfl
@[simp] theorem State.drop_inten (s : State) : s.drop.inten = s.inten := rfl
@[simp] theorem State.drop_outLen (s : State) : s.drop.outLen = s.outLen := rfl
@[simp] theorem State.drop_errX (s : State) : s.drop.errX = s.errX := rfl
@[simp] theorem State.drop_errY (s : State) : s.drop.errY = s.errY := rfl
@[simp] theorem State.drop_errRgb (s : State) : s.drop.errRgb = s.errRgb := rfl
@[simp] theorem State.drop_x (s : State) : s.drop.x = s.x := rfl
@[simp] theorem State.drop_y (s : State) : s.drop.y = s.y := rfl
@[simp] theorem State.drop_acc0 (s : State) : s.drop.acc0 = s.acc0 := rfl
@[simp] theorem State.drop_acc1 (s : State) : s.drop.acc1 = s.acc1 := rfl
@[simp] theorem State.drop_outbuf (s : State) : s.drop.outbuf = s.outbuf := rfl
@[simp] theorem State.drop_outbufBytes (s : State) : s.drop.outbufBytes = s.outbufBytes := rfl
@[simp] theorem State.drop_draws (s : State) : s.drop.draws = s.draws := rfl
@[simp] theorem State.drop_rdata (s : State) : s.drop.rdata = s.rdata := rfl
@[simp] theorem State.drop_port (s : State) : s.drop.port = s.port := rfl

/-! ### setMode -/

@[simp] theorem State.setMode_frame (s : State) (m : Mode) : (s.setMode m).frame = s.frame := rfl
@[simp] theorem State.setMode_dropped (s : State) (m : Mode) : (s.setMode m).dropped = s.dropped := rfl
@[simp] theorem State.setMode_errKind (s : State) (m : Mode) : (s.setMode m).errKind = s.errKind := rfl
@[simp] theorem State.setMode_errDetail (s : State) (m : Mode) : (s.setMode m).errDetail = s.errDetail := rfl
@[simp] theorem State.setMode_mode (s : State) (m : Mode) : (s.setMode m).mode = m := rfl
@[simp] theorem State.setMode_width (s : State) (m : Mode) : (s.setMode m).width = s.width := rfl
@[simp] theorem State.setMode_height (s : State) (m : Mode) : (s.setMode m).height = s.height := rfl
@[simp] theorem State.setMode_planes (s : State) (m : Mode) : (s.setMode m).planes = s.planes := rfl
@[simp] theorem State.setMode_palLen (s : State) (m : Mode) : (s.setMode m).palLen = s.palLen := rfl
@[simp] theorem State.setMode_pal (s : State) (m : Mode) : (s.setMode m).pal = s.pal := rfl
@[simp] theorem State.setMode_inten (s : State) (m : Mode) : (s.setMode m).inten = s.inten := rfl
@[simp] theorem State.setMode_outLen (s : State) (m : Mode) : (s.setMode m).outLen = s.outLen := rfl
@[simp] theorem State.setMode_errX (s : State) (m : Mode) : (s.setMode m).errX = s.errX := rfl
@[simp] theorem State.setMode_errY (s : State) (m : Mode) : (s.setMode m).errY = s.errY := rfl
@[simp] theorem State.setMode_errRgb (s : State) (m : Mode) : (s.setMode m).errRgb = s.errRgb := rfl
@[simp] theorem State.setMode_x (s : State) (m : Mode) : (s.setMode m).x = s.x := rfl
@[simp] theorem State.setMode_y (s : State) (m : Mode) : (s.setMode m).y = s.y := rfl
@[simp] theorem State.setMode_acc0 (s : State) (m : Mode) : (s.setMode m).acc0 = s.acc0 := rfl
@[simp] theorem State.setMode_acc1 (s : State) (m : Mode) : (s.setMode m).acc1 = s.acc1 := rfl
@[simp] theorem State.setMode_outbuf (s : State) (m : Mode) : (s.setMode m).outbuf = s.outbuf := rfl
@[simp] theorem State.setMode_outbufBytes (s : State) (m : Mode) : (s.setMode m).outbufBytes = s.outbufBytes := rfl
@[simp] theorem State.setMode_draws (s : State) (m : Mode) : (s.setMode m).draws = s.draws := rfl
@[simp] theorem State.setMode_rdata (s : State) (m : Mode) : (s.setMode m).rdata = s.rdata := rfl
@[simp] theorem State.setMode_port (s : State) (m : Mode) : (s.setMode m).port = s.port := rfl

/-! ### setWidth -/

@[simp] theorem State.setWidth_frame (s : State) (v : Dim) : (s.setWidth v).frame = s.frame := rfl
@[simp] theorem State.setWidth_dropped (s : State) (v : Dim) : (s.setWidth v).dropped = s.dropped := rfl
@[simp] theorem State.setWidth_errKind (s : State) (v : Dim) : (s.setWidth v).errKind = s.errKind := rfl
@[simp] theorem State.setWidth_errDetail (s : State) (v : Dim) : (s.setWidth v).errDetail = s.errDetail := rfl
@[simp] theorem State.setWidth_mode (s : State) (v : Dim) : (s.setWidth v).mode = s.mode := rfl
@[simp] theorem State.setWidth_width (s : State) (v : Dim) : (s.setWidth v).width = v := rfl
@[simp] theorem State.setWidth_height (s : State) (v : Dim) : (s.setWidth v).height = s.height := rfl
@[simp] theorem State.setWidth_planes (s : State) (v : Dim) : (s.setWidth v).planes = s.planes := rfl
@[simp] theorem State.setWidth_palLen (s : State) (v : Dim) : (s.setWidth v).palLen = s.palLen := rfl
@[simp] theorem State.setWidth_pal (s : State) (v : Dim) : (s.setWidth v).pal = s.pal := rfl
@[simp] theorem State.setWidth_inten (s : State) (v : Dim) : (s.setWidth v).inten = s.inten := rfl
@[simp] theorem State.setWidth_outLen (s : State) (v : Dim) : (s.setWidth v).outLen = s.outLen := rfl
@[simp] theorem State.setWidth_errX (s : State) (v : Dim) : (s.setWidth v).errX = s.errX := rfl
@[simp] theorem State.setWidth_errY (s : State) (v : Dim) : (s.setWidth v).errY = s.errY := rfl
@[simp] theorem State.setWidth_errRgb (s : State) (v : Dim) : (s.setWidth v).errRgb = s.errRgb := rfl
@[simp] theorem State.setWidth_x (s : State) (v : Dim) : (s.setWidth v).x = s.x := rfl
@[simp] theorem State.setWidth_y (s : State) (v : Dim) : (s.setWidth v).y = s.y := rfl
@[simp] theorem State.setWidth_acc0 (s : State) (v : Dim) : (s.setWidth v).acc0 = s.acc0 := rfl
@[simp] theorem State.setWidth_acc1 (s : State) (v : Dim) : (s.setWidth v).acc1 = s.acc1 := rfl
@[simp] theorem State.setWidth_outbuf (s : State) (v : Dim) : (s.setWidth v).outbuf = s.outbuf := rfl
@[simp] theorem State.setWidth_outbufBytes (s : State) (v : Dim) : (s.setWidth v).outbufBytes = s.outbufBytes := rfl
@[simp] theorem State.setWidth_draws (s : State) (v : Dim) : (s.setWidth v).draws = s.draws := rfl
@[simp] theorem State.setWidth_rdata (s : State) (v : Dim) : (s.setWidth v).rdata = s.rdata := rfl
@[simp] theorem State.setWidth_port (s : State) (v : Dim) : (s.setWidth v).port = s.port := rfl

/-! ### setHeight -/

@[simp] theorem State.setHeight_frame (s : State) (v : Dim) : (s.setHeight v).frame = s.frame := rfl
@[simp] theorem State.setHeight_dropped (s : State) (v : Dim) : (s.setHeight v).dropped = s.dropped := rfl
@[simp] theorem State.setHeight_errKind (s : State) (v : Dim) : (s.setHeight v).errKind = s.errKind := rfl
@[simp] theorem State.setHeight_errDetail (s : State) (v : Dim) : (s.setHeight v).errDetail = s.errDetail := rfl
@[simp] theorem State.setHeight_mode (s : State) (v : Dim) : (s.setHeight v).mode = s.mode := rfl
@[simp] theorem State.setHeight_width (s : State) (v : Dim) : (s.setHeight v).width = s.width := rfl
@[simp] theorem State.setHeight_height (s : State) (v : Dim) : (s.setHeight v).height = v := rfl
@[simp] theorem State.setHeight_planes (s : State) (v : Dim) : (s.setHeight v).planes = s.planes := rfl
@[simp] theorem State.setHeight_palLen (s : State) (v : Dim) : (s.setHeight v).palLen = s.palLen := rfl
@[simp] theorem State.setHeight_pal (s : State) (v : Dim) : (s.setHeight v).pal = s.pal := rfl
@[simp] theorem State.setHeight_inten (s : State) (v : Dim) : (s.setHeight v).inten = s.inten := rfl
@[simp] theorem State.setHeight_outLen (s : State) (v : Dim) : (s.setHeight v).outLen = s.outLen := rfl
@[simp] theorem State.setHeight_errX (s : State) (v : Dim) : (s.setHeight v).errX = s.errX := rfl
@[simp] theorem State.setHeight_errY (s : State) (v : Dim) : (s.setHeight v).errY = s.errY := rfl
@[simp] theorem State.setHeight_errRgb (s : State) (v : Dim) : (s.setHeight v).errRgb = s.errRgb := rfl
@[simp] theorem State.setHeight_x (s : State) (v : Dim) : (s.setHeight v).x = s.x := rfl
@[simp] theorem State.setHeight_y (s : State) (v : Dim) : (s.setHeight v).y = s.y := rfl
@[simp] theorem State.setHeight_acc0 (s : State) (v : Dim) : (s.setHeight v).acc0 = s.acc0 := rfl
@[simp] theorem State.setHeight_acc1 (s : State) (v : Dim) : (s.setHeight v).acc1 = s.acc1 := rfl
@[simp] theorem State.setHeight_outbuf (s : State) (v : Dim) : (s.setHeight v).outbuf = s.outbuf := rfl
@[simp] theorem State.setHeight_outbufBytes (s : State) (v : Dim) : (s.setHeight v).outbufBytes = s.outbufBytes := rfl
@[simp] theorem State.setHeight_draws (s : State) (v : Dim) : (s.setHeight v).draws = s.draws := rfl
@[simp] theorem State.setHeight_rdata (s : State) (v : Dim) : (s.setHeight v).rdata = s.rdata := rfl
@[simp] theorem State.setHeight_port (s : State) (v : Dim) : (s.setHeight v).port = s.port := rfl

/-! ### setPlanes -/

@[simp] theorem State.setPlanes_frame (s : State) (v : Word) : (s.setPlanes v).frame = s.frame := rfl
@[simp] theorem State.setPlanes_dropped (s : State) (v : Word) : (s.setPlanes v).dropped = s.dropped := rfl
@[simp] theorem State.setPlanes_errKind (s : State) (v : Word) : (s.setPlanes v).errKind = s.errKind := rfl
@[simp] theorem State.setPlanes_errDetail (s : State) (v : Word) : (s.setPlanes v).errDetail = s.errDetail := rfl
@[simp] theorem State.setPlanes_mode (s : State) (v : Word) : (s.setPlanes v).mode = s.mode := rfl
@[simp] theorem State.setPlanes_width (s : State) (v : Word) : (s.setPlanes v).width = s.width := rfl
@[simp] theorem State.setPlanes_height (s : State) (v : Word) : (s.setPlanes v).height = s.height := rfl
@[simp] theorem State.setPlanes_planes (s : State) (v : Word) : (s.setPlanes v).planes = v := rfl
@[simp] theorem State.setPlanes_palLen (s : State) (v : Word) : (s.setPlanes v).palLen = s.palLen := rfl
@[simp] theorem State.setPlanes_pal (s : State) (v : Word) : (s.setPlanes v).pal = s.pal := rfl
@[simp] theorem State.setPlanes_inten (s : State) (v : Word) : (s.setPlanes v).inten = s.inten := rfl
@[simp] theorem State.setPlanes_outLen (s : State) (v : Word) : (s.setPlanes v).outLen = s.outLen := rfl
@[simp] theorem State.setPlanes_errX (s : State) (v : Word) : (s.setPlanes v).errX = s.errX := rfl
@[simp] theorem State.setPlanes_errY (s : State) (v : Word) : (s.setPlanes v).errY = s.errY := rfl
@[simp] theorem State.setPlanes_errRgb (s : State) (v : Word) : (s.setPlanes v).errRgb = s.errRgb := rfl
@[simp] theorem State.setPlanes_x (s : State) (v : Word) : (s.setPlanes v).x = s.x := rfl
@[simp] theorem State.setPlanes_y (s : State) (v : Word) : (s.setPlanes v).y = s.y := rfl
@[simp] theorem State.setPlanes_acc0 (s : State) (v : Word) : (s.setPlanes v).acc0 = s.acc0 := rfl
@[simp] theorem State.setPlanes_acc1 (s : State) (v : Word) : (s.setPlanes v).acc1 = s.acc1 := rfl
@[simp] theorem State.setPlanes_outbuf (s : State) (v : Word) : (s.setPlanes v).outbuf = s.outbuf := rfl
@[simp] theorem State.setPlanes_outbufBytes (s : State) (v : Word) : (s.setPlanes v).outbufBytes = s.outbufBytes := rfl
@[simp] theorem State.setPlanes_draws (s : State) (v : Word) : (s.setPlanes v).draws = s.draws := rfl
@[simp] theorem State.setPlanes_rdata (s : State) (v : Word) : (s.setPlanes v).rdata = s.rdata := rfl
@[simp] theorem State.setPlanes_port (s : State) (v : Word) : (s.setPlanes v).port = s.port := rfl

/-! ### setPalLen -/

@[simp] theorem State.setPalLen_frame (s : State) (v : Byte) : (s.setPalLen v).frame = s.frame := rfl
@[simp] theorem State.setPalLen_dropped (s : State) (v : Byte) : (s.setPalLen v).dropped = s.dropped := rfl
@[simp] theorem State.setPalLen_errKind (s : State) (v : Byte) : (s.setPalLen v).errKind = s.errKind := rfl
@[simp] theorem State.setPalLen_errDetail (s : State) (v : Byte) : (s.setPalLen v).errDetail = s.errDetail := rfl
@[simp] theorem State.setPalLen_mode (s : State) (v : Byte) : (s.setPalLen v).mode = s.mode := rfl
@[simp] theorem State.setPalLen_width (s : State) (v : Byte) : (s.setPalLen v).width = s.width := rfl
@[simp] theorem State.setPalLen_height (s : State) (v : Byte) : (s.setPalLen v).height = s.height := rfl
@[simp] theorem State.setPalLen_planes (s : State) (v : Byte) : (s.setPalLen v).planes = s.planes := rfl
@[simp] theorem State.setPalLen_palLen (s : State) (v : Byte) : (s.setPalLen v).palLen = v := rfl
@[simp] theorem State.setPalLen_pal (s : State) (v : Byte) : (s.setPalLen v).pal = s.pal := rfl
@[simp] theorem State.setPalLen_inten (s : State) (v : Byte) : (s.setPalLen v).inten = s.inten := rfl
@[simp] theorem State.setPalLen_outLen (s : State) (v : Byte) : (s.setPalLen v).outLen = s.outLen := rfl
@[simp] theorem State.setPalLen_errX (s : State) (v : Byte) : (s.setPalLen v).errX = s.errX := rfl
@[simp] theorem State.setPalLen_errY (s : State) (v : Byte) : (s.setPalLen v).errY = s.errY := rfl
@[simp] theorem State.setPalLen_errRgb (s : State) (v : Byte) : (s.setPalLen v).errRgb = s.errRgb := rfl
@[simp] theorem State.setPalLen_x (s : State) (v : Byte) : (s.setPalLen v).x = s.x := rfl
@[simp] theorem State.setPalLen_y (s : State) (v : Byte) : (s.setPalLen v).y = s.y := rfl
@[simp] theorem State.setPalLen_acc0 (s : State) (v : Byte) : (s.setPalLen v).acc0 = s.acc0 := rfl
@[simp] theorem State.setPalLen_acc1 (s : State) (v : Byte) : (s.setPalLen v).acc1 = s.acc1 := rfl
@[simp] theorem State.setPalLen_outbuf (s : State) (v : Byte) : (s.setPalLen v).outbuf = s.outbuf := rfl
@[simp] theorem State.setPalLen_outbufBytes (s : State) (v : Byte) : (s.setPalLen v).outbufBytes = s.outbufBytes := rfl
@[simp] theorem State.setPalLen_draws (s : State) (v : Byte) : (s.setPalLen v).draws = s.draws := rfl
@[simp] theorem State.setPalLen_rdata (s : State) (v : Byte) : (s.setPalLen v).rdata = s.rdata := rfl
@[simp] theorem State.setPalLen_port (s : State) (v : Byte) : (s.setPalLen v).port = s.port := rfl

/-! ### setInten -/

@[simp] theorem State.setInten_frame (s : State) (v : BitVec 2) : (s.setInten v).frame = s.frame := rfl
@[simp] theorem State.setInten_dropped (s : State) (v : BitVec 2) : (s.setInten v).dropped = s.dropped := rfl
@[simp] theorem State.setInten_errKind (s : State) (v : BitVec 2) : (s.setInten v).errKind = s.errKind := rfl
@[simp] theorem State.setInten_errDetail (s : State) (v : BitVec 2) : (s.setInten v).errDetail = s.errDetail := rfl
@[simp] theorem State.setInten_mode (s : State) (v : BitVec 2) : (s.setInten v).mode = s.mode := rfl
@[simp] theorem State.setInten_width (s : State) (v : BitVec 2) : (s.setInten v).width = s.width := rfl
@[simp] theorem State.setInten_height (s : State) (v : BitVec 2) : (s.setInten v).height = s.height := rfl
@[simp] theorem State.setInten_planes (s : State) (v : BitVec 2) : (s.setInten v).planes = s.planes := rfl
@[simp] theorem State.setInten_palLen (s : State) (v : BitVec 2) : (s.setInten v).palLen = s.palLen := rfl
@[simp] theorem State.setInten_pal (s : State) (v : BitVec 2) : (s.setInten v).pal = s.pal := rfl
@[simp] theorem State.setInten_inten (s : State) (v : BitVec 2) : (s.setInten v).inten = v := rfl
@[simp] theorem State.setInten_outLen (s : State) (v : BitVec 2) : (s.setInten v).outLen = s.outLen := rfl
@[simp] theorem State.setInten_errX (s : State) (v : BitVec 2) : (s.setInten v).errX = s.errX := rfl
@[simp] theorem State.setInten_errY (s : State) (v : BitVec 2) : (s.setInten v).errY = s.errY := rfl
@[simp] theorem State.setInten_errRgb (s : State) (v : BitVec 2) : (s.setInten v).errRgb = s.errRgb := rfl
@[simp] theorem State.setInten_x (s : State) (v : BitVec 2) : (s.setInten v).x = s.x := rfl
@[simp] theorem State.setInten_y (s : State) (v : BitVec 2) : (s.setInten v).y = s.y := rfl
@[simp] theorem State.setInten_acc0 (s : State) (v : BitVec 2) : (s.setInten v).acc0 = s.acc0 := rfl
@[simp] theorem State.setInten_acc1 (s : State) (v : BitVec 2) : (s.setInten v).acc1 = s.acc1 := rfl
@[simp] theorem State.setInten_outbuf (s : State) (v : BitVec 2) : (s.setInten v).outbuf = s.outbuf := rfl
@[simp] theorem State.setInten_outbufBytes (s : State) (v : BitVec 2) : (s.setInten v).outbufBytes = s.outbufBytes := rfl
@[simp] theorem State.setInten_draws (s : State) (v : BitVec 2) : (s.setInten v).draws = s.draws := rfl
@[simp] theorem State.setInten_rdata (s : State) (v : BitVec 2) : (s.setInten v).rdata = s.rdata := rfl
@[simp] theorem State.setInten_port (s : State) (v : BitVec 2) : (s.setInten v).port = s.port := rfl

/-! ### setPal -/

@[simp] theorem State.setPal_frame (s : State) (n : Code) (v : Key) : (s.setPal n v).frame = s.frame := rfl
@[simp] theorem State.setPal_dropped (s : State) (n : Code) (v : Key) : (s.setPal n v).dropped = s.dropped := rfl
@[simp] theorem State.setPal_errKind (s : State) (n : Code) (v : Key) : (s.setPal n v).errKind = s.errKind := rfl
@[simp] theorem State.setPal_errDetail (s : State) (n : Code) (v : Key) : (s.setPal n v).errDetail = s.errDetail := rfl
@[simp] theorem State.setPal_mode (s : State) (n : Code) (v : Key) : (s.setPal n v).mode = s.mode := rfl
@[simp] theorem State.setPal_width (s : State) (n : Code) (v : Key) : (s.setPal n v).width = s.width := rfl
@[simp] theorem State.setPal_height (s : State) (n : Code) (v : Key) : (s.setPal n v).height = s.height := rfl
@[simp] theorem State.setPal_planes (s : State) (n : Code) (v : Key) : (s.setPal n v).planes = s.planes := rfl
@[simp] theorem State.setPal_palLen (s : State) (n : Code) (v : Key) : (s.setPal n v).palLen = s.palLen := rfl
@[simp] theorem State.setPal_pal (s : State) (n : Code) (v : Key) : (s.setPal n v).pal = s.pal.set n.toNat v n.isLt := rfl
@[simp] theorem State.setPal_inten (s : State) (n : Code) (v : Key) : (s.setPal n v).inten = s.inten := rfl
@[simp] theorem State.setPal_outLen (s : State) (n : Code) (v : Key) : (s.setPal n v).outLen = s.outLen := rfl
@[simp] theorem State.setPal_errX (s : State) (n : Code) (v : Key) : (s.setPal n v).errX = s.errX := rfl
@[simp] theorem State.setPal_errY (s : State) (n : Code) (v : Key) : (s.setPal n v).errY = s.errY := rfl
@[simp] theorem State.setPal_errRgb (s : State) (n : Code) (v : Key) : (s.setPal n v).errRgb = s.errRgb := rfl
@[simp] theorem State.setPal_x (s : State) (n : Code) (v : Key) : (s.setPal n v).x = s.x := rfl
@[simp] theorem State.setPal_y (s : State) (n : Code) (v : Key) : (s.setPal n v).y = s.y := rfl
@[simp] theorem State.setPal_acc0 (s : State) (n : Code) (v : Key) : (s.setPal n v).acc0 = s.acc0 := rfl
@[simp] theorem State.setPal_acc1 (s : State) (n : Code) (v : Key) : (s.setPal n v).acc1 = s.acc1 := rfl
@[simp] theorem State.setPal_outbuf (s : State) (n : Code) (v : Key) : (s.setPal n v).outbuf = s.outbuf := rfl
@[simp] theorem State.setPal_outbufBytes (s : State) (n : Code) (v : Key) : (s.setPal n v).outbufBytes = s.outbufBytes := rfl
@[simp] theorem State.setPal_draws (s : State) (n : Code) (v : Key) : (s.setPal n v).draws = s.draws := rfl
@[simp] theorem State.setPal_rdata (s : State) (n : Code) (v : Key) : (s.setPal n v).rdata = s.rdata := rfl
@[simp] theorem State.setPal_port (s : State) (n : Code) (v : Key) : (s.setPal n v).port = s.port := rfl

/-! ### raiseError -/

@[simp] theorem State.raiseError_frame (s : State) (k : ErrKind) (d : ErrDetail) (ex ey : Dim) (rgb : Key) : (s.raiseError k d ex ey rgb).frame = .error := rfl
@[simp] theorem State.raiseError_dropped (s : State) (k : ErrKind) (d : ErrDetail) (ex ey : Dim) (rgb : Key) : (s.raiseError k d ex ey rgb).dropped = s.dropped := rfl
@[simp] theorem State.raiseError_errKind (s : State) (k : ErrKind) (d : ErrDetail) (ex ey : Dim) (rgb : Key) : (s.raiseError k d ex ey rgb).errKind = k := rfl
@[simp] theorem State.raiseError_errDetail (s : State) (k : ErrKind) (d : ErrDetail) (ex ey : Dim) (rgb : Key) : (s.raiseError k d ex ey rgb).errDetail = d := rfl
@[simp] theorem State.raiseError_mode (s : State) (k : ErrKind) (d : ErrDetail) (ex ey : Dim) (rgb : Key) : (s.raiseError k d ex ey rgb).mode = s.mode := rfl
@[simp] theorem State.raiseError_width (s : State) (k : ErrKind) (d : ErrDetail) (ex ey : Dim) (rgb : Key) : (s.raiseError k d ex ey rgb).width = s.width := rfl
@[simp] theorem State.raiseError_height (s : State) (k : ErrKind) (d : ErrDetail) (ex ey : Dim) (rgb : Key) : (s.raiseError k d ex ey rgb).height = s.height := rfl
@[simp] theorem State.raiseError_planes (s : State) (k : ErrKind) (d : ErrDetail) (ex ey : Dim) (rgb : Key) : (s.raiseError k d ex ey rgb).planes = s.planes := rfl
@[simp] theorem State.raiseError_palLen (s : State) (k : ErrKind) (d : ErrDetail) (ex ey : Dim) (rgb : Key) : (s.raiseError k d ex ey rgb).palLen = s.palLen := rfl
@[simp] theorem State.raiseError_pal (s : State) (k : ErrKind) (d : ErrDetail) (ex ey : Dim) (rgb : Key) : (s.raiseError k d ex ey rgb).pal = s.pal := rfl
@[simp] theorem State.raiseError_inten (s : State) (k : ErrKind) (d : ErrDetail) (ex ey : Dim) (rgb : Key) : (s.raiseError k d ex ey rgb).inten = s.inten := rfl
@[simp] theorem State.raiseError_outLen (s : State) (k : ErrKind) (d : ErrDetail) (ex ey : Dim) (rgb : Key) : (s.raiseError k d ex ey rgb).outLen = 0 := rfl
@[simp] theorem State.raiseError_errX (s : State) (k : ErrKind) (d : ErrDetail) (ex ey : Dim) (rgb : Key) : (s.raiseError k d ex ey rgb).errX = ex := rfl
@[simp] theorem State.raiseError_errY (s : State) (k : ErrKind) (d : ErrDetail) (ex ey : Dim) (rgb : Key) : (s.raiseError k d ex ey rgb).errY = ey := rfl
@[simp] theorem State.raiseError_errRgb (s : State) (k : ErrKind) (d : ErrDetail) (ex ey : Dim) (rgb : Key) : (s.raiseError k d ex ey rgb).errRgb = rgb := rfl
@[simp] theorem State.raiseError_x (s : State) (k : ErrKind) (d : ErrDetail) (ex ey : Dim) (rgb : Key) : (s.raiseError k d ex ey rgb).x = s.x := rfl
@[simp] theorem State.raiseError_y (s : State) (k : ErrKind) (d : ErrDetail) (ex ey : Dim) (rgb : Key) : (s.raiseError k d ex ey rgb).y = s.y := rfl
@[simp] theorem State.raiseError_acc0 (s : State) (k : ErrKind) (d : ErrDetail) (ex ey : Dim) (rgb : Key) : (s.raiseError k d ex ey rgb).acc0 = s.acc0 := rfl
@[simp] theorem State.raiseError_acc1 (s : State) (k : ErrKind) (d : ErrDetail) (ex ey : Dim) (rgb : Key) : (s.raiseError k d ex ey rgb).acc1 = s.acc1 := rfl
@[simp] theorem State.raiseError_outbuf (s : State) (k : ErrKind) (d : ErrDetail) (ex ey : Dim) (rgb : Key) : (s.raiseError k d ex ey rgb).outbuf = s.outbuf := rfl
@[simp] theorem State.raiseError_outbufBytes (s : State) (k : ErrKind) (d : ErrDetail) (ex ey : Dim) (rgb : Key) : (s.raiseError k d ex ey rgb).outbufBytes = s.outbufBytes := rfl
@[simp] theorem State.raiseError_draws (s : State) (k : ErrKind) (d : ErrDetail) (ex ey : Dim) (rgb : Key) : (s.raiseError k d ex ey rgb).draws = s.draws := rfl
@[simp] theorem State.raiseError_rdata (s : State) (k : ErrKind) (d : ErrDetail) (ex ey : Dim) (rgb : Key) : (s.raiseError k d ex ey rgb).rdata = s.rdata := rfl
@[simp] theorem State.raiseError_port (s : State) (k : ErrKind) (d : ErrDetail) (ex ey : Dim) (rgb : Key) : (s.raiseError k d ex ey rgb).port = s.port := rfl

/-! ### clearFrame -/

@[simp] theorem State.clearFrame_frame (s : State) : s.clearFrame.frame = s.frame := rfl
@[simp] theorem State.clearFrame_dropped (s : State) : s.clearFrame.dropped = false := rfl
@[simp] theorem State.clearFrame_errKind (s : State) : s.clearFrame.errKind = .none := rfl
@[simp] theorem State.clearFrame_errDetail (s : State) : s.clearFrame.errDetail = .none := rfl
@[simp] theorem State.clearFrame_mode (s : State) : s.clearFrame.mode = s.mode := rfl
@[simp] theorem State.clearFrame_width (s : State) : s.clearFrame.width = s.width := rfl
@[simp] theorem State.clearFrame_height (s : State) : s.clearFrame.height = s.height := rfl
@[simp] theorem State.clearFrame_planes (s : State) : s.clearFrame.planes = s.planes := rfl
@[simp] theorem State.clearFrame_palLen (s : State) : s.clearFrame.palLen = s.palLen := rfl
@[simp] theorem State.clearFrame_pal (s : State) : s.clearFrame.pal = s.pal := rfl
@[simp] theorem State.clearFrame_inten (s : State) : s.clearFrame.inten = s.inten := rfl
@[simp] theorem State.clearFrame_outLen (s : State) : s.clearFrame.outLen = 0 := rfl
@[simp] theorem State.clearFrame_errX (s : State) : s.clearFrame.errX = 0 := rfl
@[simp] theorem State.clearFrame_errY (s : State) : s.clearFrame.errY = 0 := rfl
@[simp] theorem State.clearFrame_errRgb (s : State) : s.clearFrame.errRgb = 0 := rfl
@[simp] theorem State.clearFrame_x (s : State) : s.clearFrame.x = 0 := rfl
@[simp] theorem State.clearFrame_y (s : State) : s.clearFrame.y = 0 := rfl
@[simp] theorem State.clearFrame_acc0 (s : State) : s.clearFrame.acc0 = 0 := rfl
@[simp] theorem State.clearFrame_acc1 (s : State) : s.clearFrame.acc1 = 0 := rfl
@[simp] theorem State.clearFrame_outbuf (s : State) : s.clearFrame.outbuf = s.outbuf := rfl
@[simp] theorem State.clearFrame_outbufBytes (s : State) : s.clearFrame.outbufBytes = s.outbufBytes := rfl
@[simp] theorem State.clearFrame_draws (s : State) : s.clearFrame.draws = s.draws := rfl
@[simp] theorem State.clearFrame_rdata (s : State) : s.clearFrame.rdata = s.rdata := rfl
@[simp] theorem State.clearFrame_port (s : State) : s.clearFrame.port = s.port := rfl

/-! ### setFrame -/

@[simp] theorem State.setFrame_frame (s : State) (v : FrameState) : (s.setFrame v).frame = v := rfl
@[simp] theorem State.setFrame_dropped (s : State) (v : FrameState) : (s.setFrame v).dropped = s.dropped := rfl
@[simp] theorem State.setFrame_errKind (s : State) (v : FrameState) : (s.setFrame v).errKind = s.errKind := rfl
@[simp] theorem State.setFrame_errDetail (s : State) (v : FrameState) : (s.setFrame v).errDetail = s.errDetail := rfl
@[simp] theorem State.setFrame_mode (s : State) (v : FrameState) : (s.setFrame v).mode = s.mode := rfl
@[simp] theorem State.setFrame_width (s : State) (v : FrameState) : (s.setFrame v).width = s.width := rfl
@[simp] theorem State.setFrame_height (s : State) (v : FrameState) : (s.setFrame v).height = s.height := rfl
@[simp] theorem State.setFrame_planes (s : State) (v : FrameState) : (s.setFrame v).planes = s.planes := rfl
@[simp] theorem State.setFrame_palLen (s : State) (v : FrameState) : (s.setFrame v).palLen = s.palLen := rfl
@[simp] theorem State.setFrame_pal (s : State) (v : FrameState) : (s.setFrame v).pal = s.pal := rfl
@[simp] theorem State.setFrame_inten (s : State) (v : FrameState) : (s.setFrame v).inten = s.inten := rfl
@[simp] theorem State.setFrame_outLen (s : State) (v : FrameState) : (s.setFrame v).outLen = s.outLen := rfl
@[simp] theorem State.setFrame_errX (s : State) (v : FrameState) : (s.setFrame v).errX = s.errX := rfl
@[simp] theorem State.setFrame_errY (s : State) (v : FrameState) : (s.setFrame v).errY = s.errY := rfl
@[simp] theorem State.setFrame_errRgb (s : State) (v : FrameState) : (s.setFrame v).errRgb = s.errRgb := rfl
@[simp] theorem State.setFrame_x (s : State) (v : FrameState) : (s.setFrame v).x = s.x := rfl
@[simp] theorem State.setFrame_y (s : State) (v : FrameState) : (s.setFrame v).y = s.y := rfl
@[simp] theorem State.setFrame_acc0 (s : State) (v : FrameState) : (s.setFrame v).acc0 = s.acc0 := rfl
@[simp] theorem State.setFrame_acc1 (s : State) (v : FrameState) : (s.setFrame v).acc1 = s.acc1 := rfl
@[simp] theorem State.setFrame_outbuf (s : State) (v : FrameState) : (s.setFrame v).outbuf = s.outbuf := rfl
@[simp] theorem State.setFrame_outbufBytes (s : State) (v : FrameState) : (s.setFrame v).outbufBytes = s.outbufBytes := rfl
@[simp] theorem State.setFrame_draws (s : State) (v : FrameState) : (s.setFrame v).draws = s.draws := rfl
@[simp] theorem State.setFrame_rdata (s : State) (v : FrameState) : (s.setFrame v).rdata = s.rdata := rfl
@[simp] theorem State.setFrame_port (s : State) (v : FrameState) : (s.setFrame v).port = s.port := rfl

/-! ### abortFrame -/

@[simp] theorem State.abortFrame_frame (s : State) : s.abortFrame.frame = .idle := rfl
@[simp] theorem State.abortFrame_dropped (s : State) : s.abortFrame.dropped = false := rfl
@[simp] theorem State.abortFrame_errKind (s : State) : s.abortFrame.errKind = .none := rfl
@[simp] theorem State.abortFrame_errDetail (s : State) : s.abortFrame.errDetail = .none := rfl
@[simp] theorem State.abortFrame_mode (s : State) : s.abortFrame.mode = s.mode := rfl
@[simp] theorem State.abortFrame_width (s : State) : s.abortFrame.width = s.width := rfl
@[simp] theorem State.abortFrame_height (s : State) : s.abortFrame.height = s.height := rfl
@[simp] theorem State.abortFrame_planes (s : State) : s.abortFrame.planes = s.planes := rfl
@[simp] theorem State.abortFrame_palLen (s : State) : s.abortFrame.palLen = s.palLen := rfl
@[simp] theorem State.abortFrame_pal (s : State) : s.abortFrame.pal = s.pal := rfl
@[simp] theorem State.abortFrame_inten (s : State) : s.abortFrame.inten = s.inten := rfl
@[simp] theorem State.abortFrame_outLen (s : State) : s.abortFrame.outLen = 0 := rfl
@[simp] theorem State.abortFrame_errX (s : State) : s.abortFrame.errX = 0 := rfl
@[simp] theorem State.abortFrame_errY (s : State) : s.abortFrame.errY = 0 := rfl
@[simp] theorem State.abortFrame_errRgb (s : State) : s.abortFrame.errRgb = 0 := rfl
@[simp] theorem State.abortFrame_x (s : State) : s.abortFrame.x = 0 := rfl
@[simp] theorem State.abortFrame_y (s : State) : s.abortFrame.y = 0 := rfl
@[simp] theorem State.abortFrame_acc0 (s : State) : s.abortFrame.acc0 = 0 := rfl
@[simp] theorem State.abortFrame_acc1 (s : State) : s.abortFrame.acc1 = 0 := rfl
@[simp] theorem State.abortFrame_outbuf (s : State) : s.abortFrame.outbuf = s.outbuf := rfl
@[simp] theorem State.abortFrame_outbufBytes (s : State) : s.abortFrame.outbufBytes = s.outbufBytes := rfl
@[simp] theorem State.abortFrame_draws (s : State) : s.abortFrame.draws = s.draws := rfl
@[simp] theorem State.abortFrame_rdata (s : State) : s.abortFrame.rdata = s.rdata := rfl
@[simp] theorem State.abortFrame_port (s : State) : s.abortFrame.port = s.port := rfl

/-! ### openFrame -/

@[simp] theorem State.openFrame_frame (s : State) (len : Nat) : (s.openFrame len).frame = .busy := rfl
@[simp] theorem State.openFrame_dropped (s : State) (len : Nat) : (s.openFrame len).dropped = s.dropped := rfl
@[simp] theorem State.openFrame_errKind (s : State) (len : Nat) : (s.openFrame len).errKind = s.errKind := rfl
@[simp] theorem State.openFrame_errDetail (s : State) (len : Nat) : (s.openFrame len).errDetail = s.errDetail := rfl
@[simp] theorem State.openFrame_mode (s : State) (len : Nat) : (s.openFrame len).mode = s.mode := rfl
@[simp] theorem State.openFrame_width (s : State) (len : Nat) : (s.openFrame len).width = s.width := rfl
@[simp] theorem State.openFrame_height (s : State) (len : Nat) : (s.openFrame len).height = s.height := rfl
@[simp] theorem State.openFrame_planes (s : State) (len : Nat) : (s.openFrame len).planes = s.planes := rfl
@[simp] theorem State.openFrame_palLen (s : State) (len : Nat) : (s.openFrame len).palLen = s.palLen := rfl
@[simp] theorem State.openFrame_pal (s : State) (len : Nat) : (s.openFrame len).pal = s.pal := rfl
@[simp] theorem State.openFrame_inten (s : State) (len : Nat) : (s.openFrame len).inten = s.inten := rfl
@[simp] theorem State.openFrame_outLen (s : State) (len : Nat) : (s.openFrame len).outLen = BitVec.ofNat 32 len := rfl
@[simp] theorem State.openFrame_errX (s : State) (len : Nat) : (s.openFrame len).errX = s.errX := rfl
@[simp] theorem State.openFrame_errY (s : State) (len : Nat) : (s.openFrame len).errY = s.errY := rfl
@[simp] theorem State.openFrame_errRgb (s : State) (len : Nat) : (s.openFrame len).errRgb = s.errRgb := rfl
@[simp] theorem State.openFrame_x (s : State) (len : Nat) : (s.openFrame len).x = s.x := rfl
@[simp] theorem State.openFrame_y (s : State) (len : Nat) : (s.openFrame len).y = s.y := rfl
@[simp] theorem State.openFrame_acc0 (s : State) (len : Nat) : (s.openFrame len).acc0 = s.acc0 := rfl
@[simp] theorem State.openFrame_acc1 (s : State) (len : Nat) : (s.openFrame len).acc1 = s.acc1 := rfl
@[simp] theorem State.openFrame_outbuf (s : State) (len : Nat) : (s.openFrame len).outbuf = Memory.cleared := rfl
@[simp] theorem State.openFrame_outbufBytes (s : State) (len : Nat) : (s.openFrame len).outbufBytes = s.outbufBytes := rfl
@[simp] theorem State.openFrame_draws (s : State) (len : Nat) : (s.openFrame len).draws = s.draws := rfl
@[simp] theorem State.openFrame_rdata (s : State) (len : Nat) : (s.openFrame len).rdata = s.rdata := rfl
@[simp] theorem State.openFrame_port (s : State) (len : Nat) : (s.openFrame len).port = s.port := rfl

/-! ### accumulate -/

@[simp] theorem State.accumulate_frame (s : State) (c : Code) : (s.accumulate c).frame = s.frame := rfl
@[simp] theorem State.accumulate_dropped (s : State) (c : Code) : (s.accumulate c).dropped = s.dropped := rfl
@[simp] theorem State.accumulate_errKind (s : State) (c : Code) : (s.accumulate c).errKind = s.errKind := rfl
@[simp] theorem State.accumulate_errDetail (s : State) (c : Code) : (s.accumulate c).errDetail = s.errDetail := rfl
@[simp] theorem State.accumulate_mode (s : State) (c : Code) : (s.accumulate c).mode = s.mode := rfl
@[simp] theorem State.accumulate_width (s : State) (c : Code) : (s.accumulate c).width = s.width := rfl
@[simp] theorem State.accumulate_height (s : State) (c : Code) : (s.accumulate c).height = s.height := rfl
@[simp] theorem State.accumulate_planes (s : State) (c : Code) : (s.accumulate c).planes = s.planes := rfl
@[simp] theorem State.accumulate_palLen (s : State) (c : Code) : (s.accumulate c).palLen = s.palLen := rfl
@[simp] theorem State.accumulate_pal (s : State) (c : Code) : (s.accumulate c).pal = s.pal := rfl
@[simp] theorem State.accumulate_inten (s : State) (c : Code) : (s.accumulate c).inten = s.inten := rfl
@[simp] theorem State.accumulate_outLen (s : State) (c : Code) : (s.accumulate c).outLen = s.outLen := rfl
@[simp] theorem State.accumulate_errX (s : State) (c : Code) : (s.accumulate c).errX = s.errX := rfl
@[simp] theorem State.accumulate_errY (s : State) (c : Code) : (s.accumulate c).errY = s.errY := rfl
@[simp] theorem State.accumulate_errRgb (s : State) (c : Code) : (s.accumulate c).errRgb = s.errRgb := rfl
@[simp] theorem State.accumulate_x (s : State) (c : Code) : (s.accumulate c).x = s.x := rfl
@[simp] theorem State.accumulate_y (s : State) (c : Code) : (s.accumulate c).y = s.y := rfl
@[simp] theorem State.accumulate_acc0 (s : State) (c : Code) : (s.accumulate c).acc0 = s.nextAcc0 c := rfl
@[simp] theorem State.accumulate_acc1 (s : State) (c : Code) : (s.accumulate c).acc1 = s.nextAcc1 c := rfl
@[simp] theorem State.accumulate_outbuf (s : State) (c : Code) : (s.accumulate c).outbuf = s.outbuf := rfl
@[simp] theorem State.accumulate_outbufBytes (s : State) (c : Code) : (s.accumulate c).outbufBytes = s.outbufBytes := rfl
@[simp] theorem State.accumulate_draws (s : State) (c : Code) : (s.accumulate c).draws = s.draws := rfl
@[simp] theorem State.accumulate_rdata (s : State) (c : Code) : (s.accumulate c).rdata = s.rdata := rfl
@[simp] theorem State.accumulate_port (s : State) (c : Code) : (s.accumulate c).port = s.port := rfl

/-! ### advanceX -/

@[simp] theorem State.advanceX_frame (s : State) : s.advanceX.frame = s.frame := rfl
@[simp] theorem State.advanceX_dropped (s : State) : s.advanceX.dropped = s.dropped := rfl
@[simp] theorem State.advanceX_errKind (s : State) : s.advanceX.errKind = s.errKind := rfl
@[simp] theorem State.advanceX_errDetail (s : State) : s.advanceX.errDetail = s.errDetail := rfl
@[simp] theorem State.advanceX_mode (s : State) : s.advanceX.mode = s.mode := rfl
@[simp] theorem State.advanceX_width (s : State) : s.advanceX.width = s.width := rfl
@[simp] theorem State.advanceX_height (s : State) : s.advanceX.height = s.height := rfl
@[simp] theorem State.advanceX_planes (s : State) : s.advanceX.planes = s.planes := rfl
@[simp] theorem State.advanceX_palLen (s : State) : s.advanceX.palLen = s.palLen := rfl
@[simp] theorem State.advanceX_pal (s : State) : s.advanceX.pal = s.pal := rfl
@[simp] theorem State.advanceX_inten (s : State) : s.advanceX.inten = s.inten := rfl
@[simp] theorem State.advanceX_outLen (s : State) : s.advanceX.outLen = s.outLen := rfl
@[simp] theorem State.advanceX_errX (s : State) : s.advanceX.errX = s.errX := rfl
@[simp] theorem State.advanceX_errY (s : State) : s.advanceX.errY = s.errY := rfl
@[simp] theorem State.advanceX_errRgb (s : State) : s.advanceX.errRgb = s.errRgb := rfl
@[simp] theorem State.advanceX_x (s : State) : s.advanceX.x = s.x + 1 := rfl
@[simp] theorem State.advanceX_y (s : State) : s.advanceX.y = s.y := rfl
@[simp] theorem State.advanceX_acc0 (s : State) : s.advanceX.acc0 = s.acc0 := rfl
@[simp] theorem State.advanceX_acc1 (s : State) : s.advanceX.acc1 = s.acc1 := rfl
@[simp] theorem State.advanceX_outbuf (s : State) : s.advanceX.outbuf = s.outbuf := rfl
@[simp] theorem State.advanceX_outbufBytes (s : State) : s.advanceX.outbufBytes = s.outbufBytes := rfl
@[simp] theorem State.advanceX_draws (s : State) : s.advanceX.draws = s.draws := rfl
@[simp] theorem State.advanceX_rdata (s : State) : s.advanceX.rdata = s.rdata := rfl
@[simp] theorem State.advanceX_port (s : State) : s.advanceX.port = s.port := rfl

/-! ### endRow -/

@[simp] theorem State.endRow_frame (s : State) : s.endRow.frame = s.frame := rfl
@[simp] theorem State.endRow_dropped (s : State) : s.endRow.dropped = s.dropped := rfl
@[simp] theorem State.endRow_errKind (s : State) : s.endRow.errKind = s.errKind := rfl
@[simp] theorem State.endRow_errDetail (s : State) : s.endRow.errDetail = s.errDetail := rfl
@[simp] theorem State.endRow_mode (s : State) : s.endRow.mode = s.mode := rfl
@[simp] theorem State.endRow_width (s : State) : s.endRow.width = s.width := rfl
@[simp] theorem State.endRow_height (s : State) : s.endRow.height = s.height := rfl
@[simp] theorem State.endRow_planes (s : State) : s.endRow.planes = s.planes := rfl
@[simp] theorem State.endRow_palLen (s : State) : s.endRow.palLen = s.palLen := rfl
@[simp] theorem State.endRow_pal (s : State) : s.endRow.pal = s.pal := rfl
@[simp] theorem State.endRow_inten (s : State) : s.endRow.inten = s.inten := rfl
@[simp] theorem State.endRow_outLen (s : State) : s.endRow.outLen = s.outLen := rfl
@[simp] theorem State.endRow_errX (s : State) : s.endRow.errX = s.errX := rfl
@[simp] theorem State.endRow_errY (s : State) : s.endRow.errY = s.errY := rfl
@[simp] theorem State.endRow_errRgb (s : State) : s.endRow.errRgb = s.errRgb := rfl
@[simp] theorem State.endRow_x (s : State) : s.endRow.x = 0 := rfl
@[simp] theorem State.endRow_y (s : State) : s.endRow.y = s.y + 1 := rfl
@[simp] theorem State.endRow_acc0 (s : State) : s.endRow.acc0 = 0 := rfl
@[simp] theorem State.endRow_acc1 (s : State) : s.endRow.acc1 = 0 := rfl
@[simp] theorem State.endRow_outbuf (s : State) : s.endRow.outbuf = s.outbuf := rfl
@[simp] theorem State.endRow_outbufBytes (s : State) : s.endRow.outbufBytes = s.outbufBytes := rfl
@[simp] theorem State.endRow_draws (s : State) : s.endRow.draws = s.draws := rfl
@[simp] theorem State.endRow_rdata (s : State) : s.endRow.rdata = s.rdata := rfl
@[simp] theorem State.endRow_port (s : State) : s.endRow.port = s.port := rfl

/-! ### accept -/

@[simp] theorem State.accept_frame (s : State) (rest : List PortEvent) : (s.accept rest).frame = s.frame := rfl
@[simp] theorem State.accept_dropped (s : State) (rest : List PortEvent) : (s.accept rest).dropped = s.dropped := rfl
@[simp] theorem State.accept_errKind (s : State) (rest : List PortEvent) : (s.accept rest).errKind = s.errKind := rfl
@[simp] theorem State.accept_errDetail (s : State) (rest : List PortEvent) : (s.accept rest).errDetail = s.errDetail := rfl
@[simp] theorem State.accept_mode (s : State) (rest : List PortEvent) : (s.accept rest).mode = s.mode := rfl
@[simp] theorem State.accept_width (s : State) (rest : List PortEvent) : (s.accept rest).width = s.width := rfl
@[simp] theorem State.accept_height (s : State) (rest : List PortEvent) : (s.accept rest).height = s.height := rfl
@[simp] theorem State.accept_planes (s : State) (rest : List PortEvent) : (s.accept rest).planes = s.planes := rfl
@[simp] theorem State.accept_palLen (s : State) (rest : List PortEvent) : (s.accept rest).palLen = s.palLen := rfl
@[simp] theorem State.accept_pal (s : State) (rest : List PortEvent) : (s.accept rest).pal = s.pal := rfl
@[simp] theorem State.accept_inten (s : State) (rest : List PortEvent) : (s.accept rest).inten = s.inten := rfl
@[simp] theorem State.accept_outLen (s : State) (rest : List PortEvent) : (s.accept rest).outLen = s.outLen := rfl
@[simp] theorem State.accept_errX (s : State) (rest : List PortEvent) : (s.accept rest).errX = s.errX := rfl
@[simp] theorem State.accept_errY (s : State) (rest : List PortEvent) : (s.accept rest).errY = s.errY := rfl
@[simp] theorem State.accept_errRgb (s : State) (rest : List PortEvent) : (s.accept rest).errRgb = s.errRgb := rfl
@[simp] theorem State.accept_x (s : State) (rest : List PortEvent) : (s.accept rest).x = s.x := rfl
@[simp] theorem State.accept_y (s : State) (rest : List PortEvent) : (s.accept rest).y = s.y := rfl
@[simp] theorem State.accept_acc0 (s : State) (rest : List PortEvent) : (s.accept rest).acc0 = s.acc0 := rfl
@[simp] theorem State.accept_acc1 (s : State) (rest : List PortEvent) : (s.accept rest).acc1 = s.acc1 := rfl
@[simp] theorem State.accept_outbuf (s : State) (rest : List PortEvent) : (s.accept rest).outbuf = s.outbuf := rfl
@[simp] theorem State.accept_outbufBytes (s : State) (rest : List PortEvent) : (s.accept rest).outbufBytes = s.outbufBytes := rfl
@[simp] theorem State.accept_draws (s : State) (rest : List PortEvent) : (s.accept rest).draws = s.draws := rfl
@[simp] theorem State.accept_rdata (s : State) (rest : List PortEvent) : (s.accept rest).rdata = none := rfl
@[simp] theorem State.accept_port (s : State) (rest : List PortEvent) : (s.accept rest).port = rest := rfl

/-! ### applyReset -/

@[simp] theorem State.applyReset_frame (s : State) : s.applyReset.frame = .idle := rfl
@[simp] theorem State.applyReset_dropped (s : State) : s.applyReset.dropped = false := rfl
@[simp] theorem State.applyReset_errKind (s : State) : s.applyReset.errKind = .none := rfl
@[simp] theorem State.applyReset_errDetail (s : State) : s.applyReset.errDetail = .none := rfl
@[simp] theorem State.applyReset_mode (s : State) : s.applyReset.mode = .sevenColour := rfl
@[simp] theorem State.applyReset_width (s : State) : s.applyReset.width = 0 := rfl
@[simp] theorem State.applyReset_height (s : State) : s.applyReset.height = 0 := rfl
@[simp] theorem State.applyReset_planes (s : State) : s.applyReset.planes = 0 := rfl
@[simp] theorem State.applyReset_palLen (s : State) : s.applyReset.palLen = 0 := rfl
@[simp] theorem State.applyReset_pal (s : State) : s.applyReset.pal = Vector.replicate 8 0 := rfl
@[simp] theorem State.applyReset_inten (s : State) : s.applyReset.inten = 0 := rfl
@[simp] theorem State.applyReset_outLen (s : State) : s.applyReset.outLen = 0 := rfl
@[simp] theorem State.applyReset_errX (s : State) : s.applyReset.errX = 0 := rfl
@[simp] theorem State.applyReset_errY (s : State) : s.applyReset.errY = 0 := rfl
@[simp] theorem State.applyReset_errRgb (s : State) : s.applyReset.errRgb = 0 := rfl
@[simp] theorem State.applyReset_x (s : State) : s.applyReset.x = 0 := rfl
@[simp] theorem State.applyReset_y (s : State) : s.applyReset.y = 0 := rfl
@[simp] theorem State.applyReset_acc0 (s : State) : s.applyReset.acc0 = 0 := rfl
@[simp] theorem State.applyReset_acc1 (s : State) : s.applyReset.acc1 = 0 := rfl
@[simp] theorem State.applyReset_outbuf (s : State) : s.applyReset.outbuf = ⟨.unspecified s.draws, []⟩ := rfl
@[simp] theorem State.applyReset_outbufBytes (s : State) : s.applyReset.outbufBytes = s.outbufBytes := rfl
@[simp] theorem State.applyReset_draws (s : State) : s.applyReset.draws = s.draws + 1 := rfl
@[simp] theorem State.applyReset_rdata (s : State) : s.applyReset.rdata = none := rfl
@[simp] theorem State.applyReset_port (s : State) : s.applyReset.port = s.port := rfl

end Sys2Proof.Machine
end

