-- ==== Sys2Proof/Laws/Ops.lean ====
section
/-! SUPPORT. For each shared operation of Machine/Ops.lean, once, everything it can do. -/

namespace Sys2Proof.Machine

/-! ## The ROM (R112) -/

theorem Mode.romPack_pos (m : Mode) : 0 < m.romPack := by cases m <;> decide

theorem Mode.romPlanes_cases (m : Mode) : m.romPlanes = 1 ∨ m.romPlanes = 2 := by cases m <;> decide

theorem Mode.romN_le (m : Mode) : m.romN ≤ 7 := by cases m <;> decide

/-! ## The gate (R136) -/

theorem State.cfgWrite_busy {s : State} (h : s.frame = .busy) (f : State → State) : s.cfgWrite f = s.drop := if_pos h

theorem State.cfgWrite_open {s : State} (h : s.frame ≠ .busy) (f : State → State) : s.cfgWrite f = f s := if_neg h

/-- PAL[n] after a write of PAL[m] (R117). -/
@[simp] theorem State.setPal_palEntry (s : State) (n m : Code) (v : Key) :
    (s.setPal n v).palEntry m = if m = n then v else s.palEntry m := by
  by_cases h : m = n
  · subst h
    simp [State.palEntry]
  · have hne : n.toNat ≠ m.toNat := fun e => h (BitVec.eq_of_toNat_eq e).symm
    simp [State.palEntry, h, hne]

/-- A MODE write stores a mode or nothing (R137). -/
theorem State.writeMode_cases (s : State) (d : Word) :
    (modeField d = none ∧ s.writeMode d = s) ∨ ∃ m, modeField d = some m ∧ s.writeMode d = s.setMode m := by
  cases h : modeField d with
  | none => exact .inl ⟨rfl, by simp [State.writeMode, h]⟩
  | some m => exact .inr ⟨m, rfl, by simp [State.writeMode, h]⟩

/-! ## START (R131) -/

/-- Everything `start()` can do: one of three errors, in their order, or an open frame. -/
theorem State.startFrame_cases (s : State) :
    (s.palLen.toNat ≠ s.mode.romN ∧ s.startFrame = s.clearFrame.raiseError .invalidPalette .none 0 0 0) ∨
    (s.palLen.toNat = s.mode.romN ∧ s.width.toNat % s.mode.romPack ≠ 0 ∧
      s.startFrame = s.clearFrame.raiseError .invalidImageShape .widthAlign 0 0 0) ∨
    (s.palLen.toNat = s.mode.romN ∧ s.width.toNat % s.mode.romPack = 0 ∧ s.outbufBytes.val < s.frameBytes ∧
      s.startFrame = s.clearFrame.raiseError .invalidImageShape .capacity 0 0 0) ∨
    (s.acceptsFrame ∧ s.startFrame = s.clearFrame.openFrame s.frameBytes) := by
  have hp : s.clearFrame.paletteOk = true ↔ s.palLen.toNat = s.mode.romN := by simp [State.paletteOk]
  have hw : s.clearFrame.widthOk = true ↔ s.width.toNat % s.mode.romPack = 0 := by simp [State.widthOk]
  have hf : s.clearFrame.frameBytes = s.frameBytes := rfl
  by_cases h1 : s.palLen.toNat = s.mode.romN
  · by_cases h2 : s.width.toNat % s.mode.romPack = 0
    · by_cases h3 : s.outbufBytes.val < s.frameBytes
      · exact .inr (.inr (.inl ⟨h1, h2, h3, by simp [State.startFrame, hp.2 h1, hw.2 h2, hf, h3]⟩))
      · exact .inr (.inr (.inr ⟨⟨h1, h2, not_lt.1 h3⟩, by simp [State.startFrame, hp.2 h1, hw.2 h2, hf, h3]⟩))
    · have hw' : s.clearFrame.widthOk = false := by simpa using mt hw.1 h2
      exact .inr (.inl ⟨h1, h2, by simp [State.startFrame, hp.2 h1, hw']⟩)
  · have hp' : s.clearFrame.paletteOk = false := by simpa using mt hp.1 h1
    exact .inl ⟨h1, by simp [State.startFrame, hp']⟩

/-- A START whose checks pass opens the frame. -/
theorem State.startFrame_of_accepts {s : State} (h : s.acceptsFrame) :
    s.startFrame = s.clearFrame.openFrame s.frameBytes := by
  obtain ⟨h1, h2, h3⟩ := h
  rcases s.startFrame_cases with ⟨h, _⟩ | ⟨_, h, _⟩ | ⟨_, _, h, _⟩ | ⟨_, h⟩
  · exact absurd h1 h
  · exact absurd h2 h
  · omega
  · exact h

/-- OUT_LEN holds the length exactly: it is at most 2^30 (R6). -/
theorem State.frameBytes_toNat {s : State} (h : s.frameBytes ≤ s.outbufBytes.val) :
    (BitVec.ofNat 32 s.frameBytes).toNat = s.frameBytes := by
  have := s.outbufBytes.isLt
  rw [BitVec.toNat_ofNat, Nat.mod_eq_of_lt (by omega)]

/-! ## Classification (R115, R116) -/

/-- The highest index below `n` that matches, or none. -/
theorem lastMatch_spec (pal : Code → Key) (key : Key) (n : Nat) (hn : n ≤ 8) :
    (lastMatch pal key n = none ∧ ∀ i : Code, i.toNat < n → pal i ≠ key) ∨
    ∃ c : Code, lastMatch pal key n = some c ∧ c.toNat < n ∧ pal c = key ∧
      ∀ i : Code, c.toNat < i.toNat → i.toNat < n → pal i ≠ key := by
  induction n with
  | zero => exact .inl ⟨rfl, fun i hi => absurd hi (Nat.not_lt_zero _)⟩
  | succ n ih =>
    have hv : (BitVec.ofNat 3 n).toNat = n := by
      rw [BitVec.toNat_ofNat, Nat.mod_eq_of_lt (by omega)]
    have hlast : ∀ i : Code, i.toNat < n + 1 → i.toNat < n ∨ i = BitVec.ofNat 3 n := by
      intro i hi
      by_cases h : i.toNat < n
      · exact .inl h
      · exact .inr (BitVec.eq_of_toNat_eq (by omega))
    by_cases hm : pal (BitVec.ofNat 3 n) = key
    · refine .inr ⟨BitVec.ofNat 3 n, by simp [lastMatch, hm], by omega, hm, fun i h1 h2 => ?_⟩
      omega
    · rcases ih (by omega) with ⟨h0, h⟩ | ⟨c, h0, hc, hk, h⟩
      · refine .inl ⟨by simp [lastMatch, hm, h0], fun i hi => ?_⟩
        rcases hlast i hi with hi | rfl
        · exact h i hi
        · exact hm
      · refine .inr ⟨c, by simp [lastMatch, hm, h0], by omega, hk, fun i h1 hi => ?_⟩
        rcases hlast i hi with hi | rfl
        · exact h i h1 hi
        · exact hm

/-- A code the classifier gives is below N (R115). -/
theorem State.classify_lt {s : State} {key : Key} {c : Code} (h : s.classify key = some c) : c.toNat < s.mode.romN := by
  rcases lastMatch_spec s.palEntry key s.mode.romN (by have := s.mode.romN_le; omega) with ⟨h0, _⟩ | ⟨c', h0, hc, _⟩
  · rw [State.classify, h0] at h
    cases h
  · rw [State.classify, h0] at h
    cases h
    exact hc

/-! ## The writer (R185) -/

/-- Everything one store of the writer can do. -/
theorem State.storeOut_cases (s : State) (a : Nat) (v : Byte) :
    (a < s.outbufBytes.val ∧ s.storeOut a v = .ok { s with outbuf := s.outbuf.write a v }) ∨
    (s.outbufBytes.val ≤ a ∧ s.storeOut a v = .error (.outbufStore a)) := by
  by_cases h : a < s.outbufBytes.val
  · exact .inl ⟨h, by simp [State.storeOut, h]⟩
  · exact .inr ⟨not_lt.1 h, by simp [State.storeOut, h]⟩

/-- OUTBUF after the writer has stored the bytes of both planes, or of the one plane. -/
def State.storedOut (s : State) : Memory :=
  if s.mode.romPlanes = 2 then (s.outbuf.write s.byteIndex s.acc0).write (s.planeBytes + s.byteIndex) s.acc1
  else s.outbuf.write s.byteIndex s.acc0

/-- The writer stores, where all its addresses exist. -/
theorem State.finalise_ok {s : State} (h0 : s.byteIndex < s.outbufBytes.val)
    (h1 : s.mode.romPlanes = 2 → s.planeBytes + s.byteIndex < s.outbufBytes.val) :
    s.finalise = .ok { s with outbuf := s.storedOut } := by
  by_cases h : s.mode.romPlanes = 2
  · simp [State.finalise, State.storeOut, State.storedOut, h0, h, h1 h]
  · simp [State.finalise, State.storeOut, State.storedOut, h0, h]

/-- Where the writer answers a state, all its addresses exist. -/
theorem State.finalise_inv {s t : State} (h : s.finalise = .ok t) :
    s.byteIndex < s.outbufBytes.val ∧ (s.mode.romPlanes = 2 → s.planeBytes + s.byteIndex < s.outbufBytes.val) ∧
      t = { s with outbuf := s.storedOut } := by
  have h0 : s.byteIndex < s.outbufBytes.val := by
    by_contra hn
    simp [State.finalise, State.storeOut, hn] at h
  have h1 : s.mode.romPlanes = 2 → s.planeBytes + s.byteIndex < s.outbufBytes.val := by
    intro hp
    by_contra hn
    simp [State.finalise, State.storeOut, h0, hp, hn] at h
  refine ⟨h0, h1, ?_⟩
  rw [State.finalise_ok h0 h1] at h
  exact (Except.ok.inj h).symm

/-- Every byte of OUTBUF after the writer (plane 1 after plane 0). -/
theorem State.storedOut_read (s : State) (a : Nat) :
    s.storedOut.read a =
      if s.mode.romPlanes = 2 ∧ a = s.planeBytes + s.byteIndex then s.acc1
      else if a = s.byteIndex then s.acc0 else s.outbuf.read a := by
  by_cases h : s.mode.romPlanes = 2 <;> simp [State.storedOut, h]

@[simp] theorem State.storedOut_fill (s : State) : s.storedOut.fill = s.outbuf.fill := by
  by_cases h : s.mode.romPlanes = 2 <;> simp [State.storedOut, h]

theorem State.storedOut_wf {s : State} (h : s.outbuf.wf = true) : s.storedOut.wf = true := by
  by_cases hp : s.mode.romPlanes = 2
  · rw [State.storedOut, if_pos hp]
    exact Memory.wf_write (Memory.wf_write h _ _) _ _
  · rw [State.storedOut, if_neg hp]
    exact Memory.wf_write h _ _

/-- Every cell after the writer was there before or is one of the addresses stored to. -/
theorem State.mem_storedOut {s : State} {c : Host.Cell} (h : c ∈ s.storedOut.cells) :
    c ∈ s.outbuf.cells ∨ c.1 = s.byteIndex ∨ (s.mode.romPlanes = 2 ∧ c.1 = s.planeBytes + s.byteIndex) := by
  by_cases hp : s.mode.romPlanes = 2
  · rw [State.storedOut, if_pos hp] at h
    rcases Memory.mem_write h with rfl | h
    · exact .inr (.inr ⟨hp, rfl⟩)
    · rcases Memory.mem_write h with rfl | h
      · exact .inr (.inl rfl)
      · exact .inl h
  · rw [State.storedOut, if_neg hp] at h
    rcases Memory.mem_write h with rfl | h
    · exact .inr (.inl rfl)
    · exact .inl h

/-! ## An accepted pixel (R180) -/

@[simp] theorem State.accumulate_completesByte (s : State) (c : Code) : (s.accumulate c).completesByte = s.completesByte := rfl
@[simp] theorem State.accumulate_byteIndex (s : State) (c : Code) : (s.accumulate c).byteIndex = s.byteIndex := rfl
@[simp] theorem State.accumulate_planeBytes (s : State) (c : Code) : (s.accumulate c).planeBytes = s.planeBytes := rfl

/-- OUTBUF after an accepted pixel of code `c`. -/
def State.outbufAfter (s : State) (c : Code) : Memory :=
  if s.completesByte then (s.accumulate c).storedOut else s.outbuf

/-- An accepted pixel is performed, where the writer's addresses exist or the pixel completes no byte. -/
theorem State.acceptPixel_next {s : State} (c : Code)
    (h : s.completesByte = true → s.byteIndex < s.outbufBytes.val ∧
      (s.mode.romPlanes = 2 → s.planeBytes + s.byteIndex < s.outbufBytes.val)) :
    s.acceptPixel c = .next { s with
      x := s.x + 1, acc0 := s.nextAcc0 c, acc1 := s.nextAcc1 c, outbuf := s.outbufAfter c } := by
  by_cases hc : s.completesByte = true
  · have hf : (s.accumulate c).finalise = .ok { s.accumulate c with outbuf := (s.accumulate c).storedOut } :=
      State.finalise_ok (h hc).1 (h hc).2
    simp only [State.acceptPixel, State.accumulate_completesByte, hc, if_true, hf, State.outbufAfter]
    rfl
  · simp only [State.acceptPixel, State.accumulate_completesByte, hc, State.outbufAfter]
    rfl

/-- Where an accepted pixel answers a next state, that is the state, and the writer's addresses exist. -/
theorem State.acceptPixel_inv {s t : State} {c : Code} (h : s.acceptPixel c = .next t) :
    (s.completesByte = true → s.byteIndex < s.outbufBytes.val ∧
      (s.mode.romPlanes = 2 → s.planeBytes + s.byteIndex < s.outbufBytes.val)) ∧
    t = { s with x := s.x + 1, acc0 := s.nextAcc0 c, acc1 := s.nextAcc1 c, outbuf := s.outbufAfter c } := by
  have hr : s.completesByte = true → s.byteIndex < s.outbufBytes.val ∧
      (s.mode.romPlanes = 2 → s.planeBytes + s.byteIndex < s.outbufBytes.val) := by
    intro hc
    simp only [State.acceptPixel, State.accumulate_completesByte, hc, if_true] at h
    split at h
    · cases h
    · rename_i hf
      exact ⟨(State.finalise_inv hf).1, (State.finalise_inv hf).2.1⟩
  refine ⟨hr, ?_⟩
  rw [State.acceptPixel_next c hr] at h
  exact (Host.Outcome.next.inj h).symm

/-- Every byte of OUTBUF after an accepted pixel. -/
theorem State.outbufAfter_read (s : State) (c : Code) (a : Nat) :
    (s.outbufAfter c).read a =
      if s.completesByte = true ∧ s.mode.romPlanes = 2 ∧ a = s.planeBytes + s.byteIndex then s.nextAcc1 c
      else if s.completesByte = true ∧ a = s.byteIndex then s.nextAcc0 c else s.outbuf.read a := by
  by_cases hc : s.completesByte = true
  · rw [State.outbufAfter, if_pos hc, State.storedOut_read]
    split_ifs <;> simp_all
  · simp [State.outbufAfter, hc]

@[simp] theorem State.outbufAfter_fill (s : State) (c : Code) : (s.outbufAfter c).fill = s.outbuf.fill := by
  by_cases hc : s.completesByte = true <;> simp [State.outbufAfter, hc]

theorem State.outbufAfter_wf {s : State} (h : s.outbuf.wf = true) (c : Code) : (s.outbufAfter c).wf = true := by
  by_cases hc : s.completesByte = true
  · rw [State.outbufAfter, if_pos hc]
    exact State.storedOut_wf h
  · rwa [State.outbufAfter, if_neg hc]

end Sys2Proof.Machine
end

