-- ==== Sys2Proof/Laws/PerInstr.lean ====
section
/-! SUPPORT. Per-instruction families: one lemma per constructor of `Instr`. -/

namespace Sys2Proof.Laws

/-- DATA bits lie outside a mask whose [31:0] are 0. -/
theorem data_outside_mask (d : Word) (m : TxnWord) (h : m.extractLsb' 0 32 = 0) : d.setWidth 64 &&& m = 0 := by
  apply BitVec.eq_of_getLsbD_eq
  intro k hk
  by_cases h32 : k < 32
  · have := congrArg (fun b => b.getLsbD k) h
    simp [h32] at this
    simp [this]
  · simp [BitVec.getLsbD_of_ge d k (by omega)]

/-- An operation with DATA alone: its word selects the row its pattern selects. -/
theorem selectedBy_data (r : Row) (d : Word) (hp : r.selectedBy r.pattern = true) (hm : r.mask.extractLsb' 0 32 = 0) :
    r.selectedBy (r.pattern ||| d.setWidth 64) = true := by
  have hpm : r.pattern &&& r.mask = r.pattern := by simpa [Row.selectedBy] using hp
  have : (r.pattern ||| d.setWidth 64) &&& r.mask = r.pattern := by
    rw [BitVec.and_or_distrib_right, hpm, data_outside_mask d _ hm]
    exact BitVec.or_zero
  simpa [Row.selectedBy] using this

/-- ADDR bits lie outside the OUT rows' mask. -/
theorem addr_outside_mask (a : Addr) : (a.setWidth 64 <<< 32) &&& (0xC000000000000000 : TxnWord) = 0 := by
  apply BitVec.eq_of_getLsbD_eq
  intro k hk
  have hm : ∀ k < 62, (0xC000000000000000 : TxnWord).getLsbD k = false := by decide
  by_cases h62 : k < 62
  · rw [BitVec.getLsbD_and, hm k h62, Bool.and_false]
    simp
  · simp [BitVec.getLsbD_of_ge a (k - 32) (by omega)]

/-- The palette index lies outside the PAL rows' mask. -/
theorem index_outside_mask (n : Code) : (n.setWidth 64 <<< 34) &&& (0xFFFFFFE300000000 : TxnWord) = 0 := by
  revert n
  decide

namespace EncodesItsRow

/-- R96: the word an operation encodes to selects the operation's row of the opcode map. -/
def Statement (i : Instr) : Prop := i.row.selectedBy (encode i) = true

theorem wrCtrl (data : Word) : Statement (.wrCtrl data) := selectedBy_data (Instr.row (.wrCtrl 0)) data (by decide) (by decide)
theorem rdCtrl : Statement .rdCtrl := show (Instr.row .rdCtrl).selectedBy (encode .rdCtrl) = true by decide
theorem rdStatus : Statement .rdStatus := show (Instr.row .rdStatus).selectedBy (encode .rdStatus) = true by decide
theorem wrStatus (data : Word) : Statement (.wrStatus data) := selectedBy_data (Instr.row (.wrStatus 0)) data (by decide) (by decide)
theorem wrMode (data : Word) : Statement (.wrMode data) := selectedBy_data (Instr.row (.wrMode 0)) data (by decide) (by decide)
theorem rdMode : Statement .rdMode := show (Instr.row .rdMode).selectedBy (encode .rdMode) = true by decide
theorem wrWidth (data : Word) : Statement (.wrWidth data) := selectedBy_data (Instr.row (.wrWidth 0)) data (by decide) (by decide)
theorem rdWidth : Statement .rdWidth := show (Instr.row .rdWidth).selectedBy (encode .rdWidth) = true by decide
theorem wrHeight (data : Word) : Statement (.wrHeight data) := selectedBy_data (Instr.row (.wrHeight 0)) data (by decide) (by decide)
theorem rdHeight : Statement .rdHeight := show (Instr.row .rdHeight).selectedBy (encode .rdHeight) = true by decide
theorem wrPlanes (data : Word) : Statement (.wrPlanes data) := selectedBy_data (Instr.row (.wrPlanes 0)) data (by decide) (by decide)
theorem rdPlanes : Statement .rdPlanes := show (Instr.row .rdPlanes).selectedBy (encode .rdPlanes) = true by decide
theorem wrPalLen (data : Word) : Statement (.wrPalLen data) := selectedBy_data (Instr.row (.wrPalLen 0)) data (by decide) (by decide)
theorem rdPalLen : Statement .rdPalLen := show (Instr.row .rdPalLen).selectedBy (encode .rdPalLen) = true by decide
theorem wrInten (data : Word) : Statement (.wrInten data) := selectedBy_data (Instr.row (.wrInten 0)) data (by decide) (by decide)
theorem rdInten : Statement .rdInten := show (Instr.row .rdInten).selectedBy (encode .rdInten) = true by decide
theorem rdOutLen : Statement .rdOutLen := show (Instr.row .rdOutLen).selectedBy (encode .rdOutLen) = true by decide
theorem wrOutLen (data : Word) : Statement (.wrOutLen data) := selectedBy_data (Instr.row (.wrOutLen 0)) data (by decide) (by decide)
theorem rdErrPos : Statement .rdErrPos := show (Instr.row .rdErrPos).selectedBy (encode .rdErrPos) = true by decide
theorem wrErrPos (data : Word) : Statement (.wrErrPos data) := selectedBy_data (Instr.row (.wrErrPos 0)) data (by decide) (by decide)
theorem rdErrRgb : Statement .rdErrRgb := show (Instr.row .rdErrRgb).selectedBy (encode .rdErrRgb) = true by decide
theorem wrErrRgb (data : Word) : Statement (.wrErrRgb data) := selectedBy_data (Instr.row (.wrErrRgb 0)) data (by decide) (by decide)
theorem rdPos : Statement .rdPos := show (Instr.row .rdPos).selectedBy (encode .rdPos) = true by decide
theorem wrPos (data : Word) : Statement (.wrPos data) := selectedBy_data (Instr.row (.wrPos 0)) data (by decide) (by decide)
theorem rdAcc : Statement .rdAcc := show (Instr.row .rdAcc).selectedBy (encode .rdAcc) = true by decide
theorem wrAcc (data : Word) : Statement (.wrAcc data) := selectedBy_data (Instr.row (.wrAcc 0)) data (by decide) (by decide)
theorem rdCaps : Statement .rdCaps := show (Instr.row .rdCaps).selectedBy (encode .rdCaps) = true by decide
theorem wrCaps (data : Word) : Statement (.wrCaps data) := selectedBy_data (Instr.row (.wrCaps 0)) data (by decide) (by decide)
theorem wrPal (n : Code) (data : Word) : Statement (.wrPal n data) := by
  show ((0x4000004000000000 ||| (n.setWidth 64 <<< 34 ||| data.setWidth 64)) &&& 0xFFFFFFE300000000 == 0x4000004000000000) = true
  rw [BitVec.and_or_distrib_right, BitVec.and_or_distrib_right, index_outside_mask, data_outside_mask _ _ (by decide)]
  decide
theorem rdPal (n : Code) : Statement (.rdPal n) := by
  show ((0x0000004000000000 ||| n.setWidth 64 <<< 34) &&& 0xFFFFFFE300000000 == 0x0000004000000000) = true
  rw [BitVec.and_or_distrib_right, index_outside_mask]
  decide
theorem wrPixel (data : Word) : Statement (.wrPixel data) := selectedBy_data (Instr.row (.wrPixel 0)) data (by decide) (by decide)
theorem rdPixel : Statement .rdPixel := show (Instr.row .rdPixel).selectedBy (encode .rdPixel) = true by decide
theorem wrRowEnd (data : Word) : Statement (.wrRowEnd data) := selectedBy_data (Instr.row (.wrRowEnd 0)) data (by decide) (by decide)
theorem rdRowEnd : Statement .rdRowEnd := show (Instr.row .rdRowEnd).selectedBy (encode .rdRowEnd) = true by decide
theorem wrFrameEnd (data : Word) : Statement (.wrFrameEnd data) := selectedBy_data (Instr.row (.wrFrameEnd 0)) data (by decide) (by decide)
theorem rdFrameEnd : Statement .rdFrameEnd := show (Instr.row .rdFrameEnd).selectedBy (encode .rdFrameEnd) = true by decide
theorem rdOut (a : Addr) : Statement (.rdOut a) := by
  show ((0x8000000000000000 ||| a.setWidth 64 <<< 32) &&& 0xC000000000000000 == 0x8000000000000000) = true
  rw [BitVec.and_or_distrib_right, addr_outside_mask]
  decide
theorem wrOut (a : Addr) (data : Word) : Statement (.wrOut a data) := by
  show ((0xC000000000000000 ||| (a.setWidth 64 <<< 32 ||| data.setWidth 64)) &&& 0xC000000000000000 == 0xC000000000000000) = true
  rw [BitVec.and_or_distrib_right, BitVec.and_or_distrib_right, addr_outside_mask, data_outside_mask _ _ (by decide)]
  decide

end EncodesItsRow

end Sys2Proof.Laws
end

