-- ==== Sys2Proof/Laws/Step.lean ====
section
/-! SUPPORT. What a step can do, said once: the port, and the effects of an operation (`Effect`). -/

namespace Sys2Proof.Machine

/-! ## The port -/

theorem step_nothing {s : State} (h : s.port = []) : step s = .next s := by simp [step, performNothing, h]

theorem step_event {s : State} {e : PortEvent} {rest : List PortEvent} (h : s.port = e :: rest) :
    step s = performEvent e (s.accept rest) := by simp [step, h]

theorem perform_ok {T : TxnWord} {i : Instr} (h : decode T = .ok i) (s : State) : perform T s = exec i s := by
  simp [perform, h]

theorem perform_error {T : TxnWord} {r : ReservedAccess} (h : decode T = .error r) (s : State) :
    perform T s = .next (s.reservedAccess r) := by simp [perform, h]

/-- What a step that answers a next state can have done. -/
theorem step_cases {s t : State} (h : step s = .next t) :
    (s.port = [] ∧ t = s) ∨
    (∃ rest, s.port = .reset :: rest ∧ t = (s.accept rest).applyReset) ∨
    (∃ T rest i, s.port = .txn T :: rest ∧ decode T = .ok i ∧ exec i (s.accept rest) = .next t) ∨
    (∃ T rest r, s.port = .txn T :: rest ∧ decode T = .error r ∧ t = (s.accept rest).reservedAccess r) := by
  cases hp : s.port with
  | nil =>
    rw [step_nothing hp] at h
    exact .inl ⟨rfl, (Host.Outcome.next.inj h).symm⟩
  | cons e rest =>
    rw [step_event hp] at h
    cases e with
    | reset => exact .inr (.inl ⟨rest, rfl, (Host.Outcome.next.inj h).symm⟩)
    | txn T =>
      cases hd : decode T with
      | ok i => exact .inr (.inr (.inl ⟨T, rest, i, rfl, hd, by rw [← perform_ok hd]; exact h⟩))
      | error r =>
        refine .inr (.inr (.inr ⟨T, rest, r, rfl, hd, ?_⟩))
        have : perform T (s.accept rest) = .next t := h
        rw [perform_error hd] at this
        exact (Host.Outcome.next.inj this).symm

/-! ## Runs -/

/-- A run goes on from where its first step leads, on any machine. -/
theorem core_run_next {M : Host.Core} {s u : M.State} (h : M.step s = .next u) (k : Nat) : M.run (k + 1) s = M.run k u := by
  rw [Host.Core.run, h]

/-- A run of `k + 1` steps that answers a next state is one step and a run of `k`, on any machine. -/
theorem core_run_cases {M : Host.Core} {s t : M.State} {k : Nat} (h : M.run (k + 1) s = .next t) :
    ∃ u, M.step s = .next u ∧ M.run k u = .next t := by
  rw [Host.Core.run] at h
  cases hs : M.step s with
  | next u => rw [hs] at h; exact ⟨u, rfl, h⟩
  | fault r => rw [hs] at h; cases h
  | refused r => rw [hs] at h; cases h

theorem run_next {s u : State} (h : step s = .next u) (k : Nat) :
    Host.Core.run Sys2Proof.core (k + 1) s = Host.Core.run Sys2Proof.core k u :=
  core_run_next (M := Sys2Proof.core) h k

theorem run_cases {s t : State} {k : Nat} (h : Host.Core.run Sys2Proof.core (k + 1) s = .next t) :
    ∃ u, step s = .next u ∧ Host.Core.run Sys2Proof.core k u = .next t :=
  core_run_cases (M := Sys2Proof.core) h

/-! ## The effects of an operation -/

/-- Everything an operation can do when it answers a next state. -/
inductive Effect (i : Instr) (s : State) : State → Prop where
  /-- Ignored writes, a CTRL write without a command, a MODE write of 3. -/
  | nothing : Effect i s s
  /-- Reads. -/
  | responds (v : Word) : Effect i s (s.respond v)
  /-- Dropped writes (R135). -/
  | drops (h : (i.isConfigWrite = true ∧ s.frame = .busy) ∨ (i.isStream = true ∧ s.frame ≠ .busy)) : Effect i s s.drop
  /-- Configuration writes (R136). -/
  | configures (hi : i.isConfigWrite = true) (hs : s.frame ≠ .busy) (m : Mode) (w h : Dim) (p : Word) (l : Byte)
      (pal : Vector Key 8) :
      Effect i s { s with mode := m, width := w, height := h, planes := p, palLen := l, pal := pal }
  /-- WR_INTEN (R142). -/
  | enables (v : BitVec 2) : Effect i s (s.setInten v)
  /-- ABORT (R132). -/
  | aborts (d : Word) (hi : i = .wrCtrl d) (ha : d.getLsbD 1 = true) : Effect i s s.abortFrame
  /-- START (R131). -/
  | starts (d : Word) (hi : i = .wrCtrl d) (ha : d.getLsbD 1 = false) (hs : d.getLsbD 0 = true) : Effect i s s.startFrame
  /-- A stream write that fails a check (R214, R215). -/
  | fails (hi : i.isStream = true) (hs : s.frame = .busy) (k : ErrKind) (e : ErrDetail) (rgb : Key) (hk : k ≠ .none)
      (he : k.admits e = true) (hr : k ≠ .unknownColor → rgb = 0) : Effect i s (s.raiseError k e s.x s.y rgb)
  /-- An accepted PIXEL (R180). -/
  | packs (d : Word) (c : Code) (hi : i = .wrPixel d) (hs : s.frame = .busy) (hy : s.y ≠ s.height) (hx : s.x ≠ s.width)
      (hc : s.classify (pixelKey d) = some c)
      (hr : s.completesByte = true → s.byteIndex < s.outbufBytes.val ∧
        (s.mode.romPlanes = 2 → s.planeBytes + s.byteIndex < s.outbufBytes.val)) :
      Effect i s { s with x := s.x + 1, acc0 := s.nextAcc0 c, acc1 := s.nextAcc1 c, outbuf := s.outbufAfter c }
  /-- An accepted ROW_END (R190). -/
  | endsRow (d : Word) (hi : i = .wrRowEnd d) (hs : s.frame = .busy) (hy : s.y ≠ s.height) (hx : s.x = s.width) :
      Effect i s s.endRow
  /-- An accepted FRAME_END (R195). -/
  | endsFrame (d : Word) (hi : i = .wrFrameEnd d) (hs : s.frame = .busy) (hy : s.y = s.height) :
      Effect i s (s.setFrame .done)

/-- A gated write has one of two effects. -/
theorem Effect.of_cfgWrite {i : Instr} {s : State} {f : State → State} (hi : i.isConfigWrite = true)
    (h : s.frame ≠ .busy → Effect i s (f s)) : Effect i s (s.cfgWrite f) := by
  by_cases hs : s.frame = .busy
  · rw [State.cfgWrite_busy hs]
    exact .drops (.inl ⟨hi, hs⟩)
  · rw [State.cfgWrite_open hs]
    exact h hs

theorem effect_wrCtrl {d : Word} {s t : State} (h : execWrCtrl d s = .next t) : Effect (.wrCtrl d) s t := by
  by_cases ha : d.getLsbD 1 = true
  · rw [execWrCtrl, if_pos (show abortBit d = true from ha)] at h
    cases h
    exact .aborts d rfl ha
  · by_cases hs : d.getLsbD 0 = true
    · rw [execWrCtrl, if_neg (show ¬ abortBit d = true from ha), if_pos (show startBit d = true from hs)] at h
      cases h
      exact .starts d rfl (by simpa using ha) hs
    · rw [execWrCtrl, if_neg (show ¬ abortBit d = true from ha), if_neg (show ¬ startBit d = true from hs)] at h
      cases h
      exact .nothing

theorem effect_wrPixel {d : Word} {s t : State} (h : execWrPixel d s = .next t) : Effect (.wrPixel d) s t := by
  by_cases hs : s.frame = .busy
  · by_cases hy : s.y = s.height
    · simp only [execWrPixel, hs, hy, ne_eq, not_true_eq_false, if_false, if_true] at h
      cases h
      rw [← hy]
      exact .fails rfl hs _ _ _ (by decide) rfl fun _ => rfl
    · by_cases hx : s.x = s.width
      · simp only [execWrPixel, hs, hy, hx, ne_eq, not_true_eq_false, if_false, if_true] at h
        cases h
        rw [← hx]
        exact .fails rfl hs _ _ _ (by decide) rfl fun _ => rfl
      · simp only [execWrPixel, hs, hy, hx, ne_eq, not_true_eq_false, if_false] at h
        cases hc : s.classify (pixelKey d) with
        | none =>
          rw [hc] at h
          cases h
          exact .fails rfl hs _ _ _ (by decide) rfl fun hk => absurd rfl hk
        | some c =>
          rw [hc] at h
          obtain ⟨hr, rfl⟩ := State.acceptPixel_inv h
          exact .packs d c rfl hs hy hx hc hr
  · rw [execWrPixel, if_pos hs] at h
    cases h
    exact .drops (.inr ⟨rfl, hs⟩)

theorem effect_wrRowEnd {d : Word} {s t : State} (h : execWrRowEnd d s = .next t) : Effect (.wrRowEnd d) s t := by
  by_cases hs : s.frame = .busy
  · by_cases hy : s.y = s.height
    · simp only [execWrRowEnd, hs, hy, ne_eq, not_true_eq_false, if_false, if_true] at h
      cases h
      rw [← hy]
      exact .fails rfl hs _ _ _ (by decide) rfl fun _ => rfl
    · by_cases hx : s.x = s.width
      · simp only [execWrRowEnd, hs, hy, hx, ne_eq, not_true_eq_false, if_false] at h
        cases h
        exact .endsRow d rfl hs hy hx
      · simp only [execWrRowEnd, hs, hy, hx, ne_eq, not_true_eq_false, not_false_eq_true, if_false, if_true] at h
        cases h
        exact .fails rfl hs _ _ _ (by decide) rfl fun _ => rfl
  · rw [execWrRowEnd, if_pos hs] at h
    cases h
    exact .drops (.inr ⟨rfl, hs⟩)

theorem effect_wrFrameEnd {d : Word} {s t : State} (h : execWrFrameEnd d s = .next t) : Effect (.wrFrameEnd d) s t := by
  by_cases hs : s.frame = .busy
  · by_cases hy : s.y = s.height
    · simp only [execWrFrameEnd, hs, hy, ne_eq, not_true_eq_false, if_false] at h
      cases h
      exact .endsFrame d rfl hs hy
    · simp only [execWrFrameEnd, hs, hy, ne_eq, not_true_eq_false, not_false_eq_true, if_false, if_true] at h
      cases h
      exact .fails rfl hs _ _ _ (by decide) rfl fun _ => rfl
  · rw [execWrFrameEnd, if_pos hs] at h
    cases h
    exact .drops (.inr ⟨rfl, hs⟩)

/-- Every operation that answers a next state has one of the effects. -/
theorem exec_effect {i : Instr} {s t : State} (h : exec i s = .next t) : Effect i s t := by
  cases i with
  | wrCtrl d => exact effect_wrCtrl h
  | wrPixel d => exact effect_wrPixel h
  | wrRowEnd d => exact effect_wrRowEnd h
  | wrFrameEnd d => exact effect_wrFrameEnd h
  | wrInten d => cases h; exact .enables _
  | wrMode d =>
    cases h
    refine .of_cfgWrite rfl fun hs => ?_
    rcases s.writeMode_cases d with ⟨_, h⟩ | ⟨m, _, h⟩
    · rw [h]; exact .nothing
    · rw [h]; exact .configures rfl hs m _ _ _ _ _
  | wrWidth d => cases h; exact .of_cfgWrite rfl fun hs => .configures rfl hs _ _ _ _ _ _
  | wrHeight d => cases h; exact .of_cfgWrite rfl fun hs => .configures rfl hs _ _ _ _ _ _
  | wrPlanes d => cases h; exact .of_cfgWrite rfl fun hs => .configures rfl hs _ _ _ _ _ _
  | wrPalLen d => cases h; exact .of_cfgWrite rfl fun hs => .configures rfl hs _ _ _ _ _ _
  | wrPal n d => cases h; exact .of_cfgWrite rfl fun hs => .configures rfl hs _ _ _ _ _ _
  | wrStatus d | wrOutLen d | wrErrPos d | wrErrRgb d | wrPos d | wrAcc d | wrCaps d | wrOut a d =>
    cases h; exact .nothing
  | rdCtrl | rdStatus | rdMode | rdWidth | rdHeight | rdPlanes | rdPalLen | rdInten | rdOutLen | rdErrPos | rdErrRgb
  | rdPos | rdAcc | rdCaps | rdPal n | rdPixel | rdRowEnd | rdFrameEnd | rdOut a =>
    cases h; exact .responds _

/-- Only an accepted pixel can stop: every other operation answers a next state. -/
theorem exec_next_of_ne_pixel {i : Instr} (hi : ∀ d, i ≠ .wrPixel d) (s : State) : ∃ t, exec i s = .next t := by
  cases i with
  | wrPixel d => exact absurd rfl (hi d)
  | wrCtrl d => simp only [exec, execWrCtrl]; split_ifs <;> exact ⟨_, rfl⟩
  | wrRowEnd d => simp only [exec, execWrRowEnd]; split_ifs <;> exact ⟨_, rfl⟩
  | wrFrameEnd d => simp only [exec, execWrFrameEnd]; split_ifs <;> exact ⟨_, rfl⟩
  | _ => exact ⟨_, rfl⟩

end Sys2Proof.Machine
end

