-- ==== Sys2Proof/Tests/Slice0.lean ====
section
/-! SUPPORT. Tests on fixed values, each with the place of spec/ its expected value is from, and for every statement with
hypotheses a concrete input that meets them (`witness_…`). Vectors named V-… and programs P1-P5 are of 95_test_vectors.md. -/

namespace Sys2Proof.Tests

open Sys2Proof.Machine

/-! ## States and helpers -/

/-- PAL7 of the vectors. -/
def pal7 : Vector Key 8 := #v[0x000000, 0xFFFFFF, 0x00FF00, 0x0000FF, 0xFF0000, 0xFFFF00, 0xFF8000, 0]

/-- PAL3 of the vectors. -/
def pal3 : Vector Key 8 := #v[0x000000, 0xFFFFFF, 0xFF0000, 0, 0, 0, 0, 0]

/-- After reset, OUTBUF_BYTES = 64. -/
def fresh : State := State.atReset 64 0

/-- Configured for a 7C frame with PAL7. -/
def conf7 (w h : Dim) : State := { fresh with width := w, height := h, palLen := 7, pal := pal7 }

/-- Configured for an RWB or an RWB4 frame with PAL3. -/
def conf3 (m : Mode) (w h : Dim) : State := { fresh with mode := m, width := w, height := h, palLen := 3, pal := pal3 }

/-- The frame of `s`, just started. -/
def running (s : State) : State :=
  { s with frame := .busy, outLen := BitVec.ofNat 32 s.frameBytes, outbuf := ⟨.zeroed, []⟩ }

/-- 7C, 4×2, after two pixels of codes 1 and 2. -/
def mid7 : State := { running (conf7 4 2) with x := 2, acc0 := 0x12, outbuf := ⟨.zeroed, [(0, 0x12)]⟩ }

/-- RWB, 8×1, after seven pixels of P2. -/
def mid3 : State := { running (conf3 .rwb 8 1) with x := 7, acc0 := 0x44, acc1 := 0x11 }

/-- A completed 7C 2×1 frame, OUTBUF = 12. -/
def done7 : State :=
  { conf7 2 1 with frame := .done, outLen := 1, y := 1, outbuf := ⟨.zeroed, [(0, 0x12)]⟩ }

/-- P4 before its step 19: UnknownColor at (3, 0). -/
def failed7 : State :=
  { conf7 4 1 with frame := .error, errKind := .unknownColor, errX := 3, errRgb := 0x123456, x := 3, acc0 := 0x12,
                   outbuf := ⟨.zeroed, [(0, 0x01)]⟩ }

/-- The outcome is a next state that `p` accepts. -/
def holds (o : Host.Outcome State Fault Refusal) (p : State → Bool) : Bool :=
  match o with
  | .next t => p t
  | .fault _ => false
  | .refused _ => false

/-- The outcome is a next state whose read response is `v`. -/
def answers (o : Host.Outcome State Fault Refusal) (v : Word) : Bool := holds o fun t => t.rdata == some v

/-- `s` with events on its port. -/
def issue (s : State) (es : List PortEvent) : State := { s with port := es }

/-- The fields of R90 side by side. -/
def bits (sp we : BitVec 1) (addr : BitVec 30) (data : BitVec 32) : TxnWord := sp ++ we ++ addr ++ data

/-! ## WellFormed: each check refuses an ill-formed transaction (R92, R97) -/

theorem test_wf_register : (Txn.mk false true 0x60 7).wellFormed = true := by decide
theorem test_wf_out_anywhere : (Txn.mk true false 0x3FFFFFFF 0).wellFormed = true := by decide
theorem test_wf_beyond_reg_space : (Txn.mk false false 0x100 0).wellFormed = false ∧ Txn.inRegSpace ⟨false, false, 0x100, 0⟩ = false := by decide
theorem test_wf_misaligned : (Txn.mk false false 0x006 0).wellFormed = false ∧ Txn.aligned ⟨false, false, 0x006, 0⟩ = false := by decide
theorem test_wf_no_register : (Txn.mk false true 0x38 5).wellFormed = false ∧ Txn.namesRegister ⟨false, true, 0x38, 5⟩ = false := by decide
theorem test_wf_last_register : (Txn.mk false true 0x68 0).wellFormed = true ∧ (Txn.mk false true 0x6C 0).wellFormed = false := by decide

/-! ## Decoding: words written out from R90 and R23, or copied from R96 and P1-P5 -/

theorem test_decode_control :
    decode (bits 0 1 0x00 3) = .ok (.wrCtrl 3) ∧ decode (bits 0 1 0x1C 2) = .ok (.wrInten 2) ∧
    decode 0x4000001C00000001 = .ok (.wrInten 1) := by decide

theorem test_decode_configuration :
    decode (bits 0 1 0x08 1) = .ok (.wrMode 1) ∧ decode (bits 0 1 0x0C 0x12345) = .ok (.wrWidth 0x12345) ∧
    decode (bits 0 1 0x10 9) = .ok (.wrHeight 9) ∧ decode (bits 0 1 0x14 0xDEADBEEF) = .ok (.wrPlanes 0xDEADBEEF) ∧
    decode (bits 0 1 0x18 0x107) = .ok (.wrPalLen 0x107) := by decide

theorem test_decode_palette :
    decode (bits 0 1 0x54 0xAB123456) = .ok (.wrPal 5 0xAB123456) ∧ decode 0x4000005C00000001 = .ok (.wrPal 7 1) ∧
    decode (bits 0 0 0x40 0) = .ok (.rdPal 0) ∧ decode 0x0000005C00000000 = .ok (.rdPal 7) ∧
    decode 0x0000001800000000 = .ok .rdPalLen := by decide

theorem test_decode_configuration_reads :
    decode 0x0000000800000000 = .ok .rdMode ∧ decode 0x0000000C00000000 = .ok .rdWidth ∧
    decode 0x0000001000000000 = .ok .rdHeight ∧ decode 0x0000001400000000 = .ok .rdPlanes ∧
    decode 0x0000001C00000000 = .ok .rdInten := by decide

theorem test_decode_status_reads :
    decode 0x0000000400000000 = .ok .rdStatus ∧ decode 0x0000002000000000 = .ok .rdOutLen ∧
    decode 0x0000002400000000 = .ok .rdErrPos ∧ decode 0x0000002800000000 = .ok .rdErrRgb ∧
    decode 0x0000002C00000000 = .ok .rdPos ∧ decode 0x0000003000000000 = .ok .rdAcc ∧
    decode 0x0000003400000000 = .ok .rdCaps := by decide

theorem test_decode_ignored_writes :
    decode 0x40000004000000FF = .ok (.wrStatus 0xFF) ∧ decode 0x4000002000000001 = .ok (.wrOutLen 1) ∧
    decode 0x4000002400000002 = .ok (.wrErrPos 2) ∧ decode 0x4000002800000003 = .ok (.wrErrRgb 3) ∧
    decode 0x4000002C00000004 = .ok (.wrPos 4) ∧ decode 0x4000003000000005 = .ok (.wrAcc 5) ∧
    decode 0x4000003400000006 = .ok (.wrCaps 6) := by decide

theorem test_decode_write_only_reads :
    decode 0 = .ok .rdCtrl ∧ decode 0x0000006000000000 = .ok .rdPixel ∧ decode 0x0000006400000000 = .ok .rdRowEnd ∧
    decode 0x0000006800000000 = .ok .rdFrameEnd := by decide

theorem test_decode_stream :
    decode 0x40000060123456FF = .ok (.wrPixel 0x123456FF) ∧ decode (bits 0 1 0x64 0) = .ok (.wrRowEnd 0) ∧
    decode (bits 0 1 0x68 1) = .ok (.wrFrameEnd 1) := by decide

theorem test_decode_out :
    decode 0x8000000100000000 = .ok (.rdOut 1) ∧ decode (bits 1 0 0x3FFFFFFF 0) = .ok (.rdOut 0x3FFFFFFF) ∧
    decode (bits 1 1 0 0x55) = .ok (.wrOut 0 0x55) ∧ decode 0xFFFFFFFFFFFFFFFF = .ok (.wrOut 0x3FFFFFFF 0xFFFFFFFF) := by
  decide

/-- V-CTL15, V-CTL16 (R97). -/
theorem test_decode_reserved :
    decode 0x0000003800000000 = .error ⟨false, 0x38, 0⟩ ∧ decode 0x0000010100000000 = .error ⟨false, 0x101, 0⟩ ∧
    decode 0x0000000600000000 = .error ⟨false, 0x006, 0⟩ ∧ decode 0x4000003800000005 = .error ⟨true, 0x38, 5⟩ := by decide

/-- The match words of R96, with operand bits where R90 and R92 put them. -/
theorem test_encode :
    encode (.wrPal 5 0xAB123456) = 0x40000054AB123456 ∧ encode (.rdPal 7) = 0x0000005C00000000 ∧
    encode (.rdOut 3) = 0x8000000300000000 ∧ encode (.wrPixel 0x00FF00FF) = 0x4000006000FF00FF := by decide

/-- The host's entry, on the table's own words. -/
theorem test_decode_table_word :
    decodeTableWord 64 0x4000006400000000 = some (.wrRowEnd 0) ∧ decodeTableWord 64 0x0000003C00000000 = none := by decide

/-! ## The port -/

/-- P5 step 13 in short, V-PAL8: START as the first instruction after reset finds PAL_LEN = 0. -/
theorem test_first_instruction_after_reset :
    holds (step (State.reset.withFetchWord 64 0x4000000000000001)) (fun t =>
      t.statusWord == 0x13 && t.port == []) = true := by decide

/-- V-CTL15 (R97): a reserved read answers 0, a reserved write does nothing. -/
theorem test_reserved_access :
    answers (step (issue fresh [.txn 0x0000003800000000])) 0 = true ∧
    holds (step (issue fresh [.txn 0x4000003800000005])) (fun t => t.statusWord == 0 && t.rdata == none) = true := by decide

/-- R49, R240: reset in a running frame. -/
theorem test_reset_event :
    holds (step (issue mid7 [.reset, .txn 0])) (fun t =>
      t.statusWord == 0 && t.width == 0 && t.palLen == 0 && t.outLen == 0 && t.port == [.txn 0] && t.outbufBytes == 64) = true := by
  decide

/-! ## Control (2.2) -/

/-- V-CTL8: ABORT wins over START. -/
theorem test_abort_wins : holds (exec (.wrCtrl 3) mid7) (fun t => t.statusWord == 0 && t.outLen == 0 && t.x == 0) = true := by
  decide

/-- V-CTL20: START leaves ERROR, clears its fields and OUTBUF. -/
theorem test_start_after_error :
    holds (exec (.wrCtrl 1) failed7) (fun t =>
      t.statusWord == 1 && t.outLen == 2 && t.errRgb == 0 && t.errX == 0 && t.x == 0 && t.acc0 == 0 && t.outbuf.read 0 == 0) = true := by
  decide

/-- V-CTL2, V-CTL3. -/
theorem test_mode_three_ignored : holds (exec (.wrMode 7) (conf3 .rwb4 4 1)) (fun t => t.mode == .rwb4 && !t.dropped) = true := by
  decide

theorem test_mode_low_bits : holds (exec (.wrMode 0x11) fresh) (fun t => t.mode == .rwb) = true := by decide

/-- V-CTL4, and P5 step 22. -/
theorem test_width_low_bits : holds (exec (.wrWidth 0x12345) fresh) (fun t => t.width == 0x2345) = true := by decide

theorem test_width_dropped_in_busy : holds (exec (.wrWidth 4) mid7) (fun t => t.width == 4 && t.statusWord == 5) = true := by
  decide

/-- R139, R140: V-CTL6. -/
theorem test_height_low_bits : holds (exec (.wrHeight 0xABCD0007) fresh) (fun t => t.height == 7 && t.width == 0) = true := by
  decide

theorem test_planes_stored : holds (exec (.wrPlanes 0xDEADBEEF) fresh) (fun t => t.planes == 0xDEADBEEF) = true := by decide

/-- V-CTL19. -/
theorem test_inten_in_error : holds (exec (.wrInten 2) failed7) (fun t => t.statusWord == 0x3B && t.irq) = true := by decide

/-- V-CTL5, V-CTL18. -/
theorem test_inten_in_busy : holds (exec (.wrInten 0xFF) mid7) (fun t => t.inten == 3 && !t.dropped) = true := by decide

/-- P4 steps 19 to 24, INTEN = 2. -/
theorem test_status_read : answers (exec .rdStatus { failed7 with inten := 2 }) 0x3B = true := by decide
theorem test_err_pos_read : answers (exec .rdErrPos failed7) 0x00000003 = true := by decide
theorem test_err_rgb_read : answers (exec .rdErrRgb failed7) 0x00123456 = true := by decide
theorem test_acc_read_one_plane : answers (exec .rdAcc failed7) 0x00000012 = true := by decide
theorem test_out_len_read_in_error : answers (exec .rdOutLen failed7) 0 = true := by decide

/-- V-SH2: Y is the high half of ERR_POS and POS. -/
theorem test_pos_read : answers (exec .rdPos { fresh with x := 1, y := 2 }) 0x00020001 = true := by decide

/-- P2 step 18: {ACC1, ACC0}. -/
theorem test_acc_read : answers (exec .rdAcc { mid3 with acc0 := 0x88, acc1 := 0x22 }) 0x00002288 = true := by decide

/-- V-CTL17: DONE with DONE_IE. -/
theorem test_status_read_done : answers (exec .rdStatus { done7 with inten := 1 }) 0x0000000A = true := by decide

theorem test_mode_read : answers (exec .rdMode (conf3 .rwb4 4 1)) 2 = true := by decide
theorem test_width_read : answers (exec .rdWidth { fresh with width := 0x2345 }) 0x2345 = true := by decide
theorem test_height_read : answers (exec .rdHeight { fresh with width := 1, height := 0xFFFF }) 0xFFFF = true := by decide
theorem test_planes_read : answers (exec .rdPlanes { fresh with planes := 0xDEADBEEF }) 0xDEADBEEF = true := by decide
theorem test_inten_read : answers (exec .rdInten { fresh with inten := 3 }) 3 = true := by decide
theorem test_out_len_read : answers (exec .rdOutLen done7) 1 = true := by decide

/-- V-CTL7. -/
theorem test_caps_read : answers (exec .rdCaps fresh) 0x40 = true := by decide

/-- V-CTL10's byte, and V-CTL12: the first address beyond the capacity. -/
theorem test_out_read : answers (exec (.rdOut 0) done7) 0x12 = true := by decide
theorem test_out_read_beyond : answers (exec (.rdOut 64) done7) 0 = true := by decide

/-- V-CTL11, V-CTL13 (R163-R170): nothing changes. -/
theorem test_out_write_ignored : exec (.wrOut 0 0x55) done7 = .next done7 := rfl
theorem test_read_only_writes_ignored :
    exec (.wrStatus 0xFF) done7 = .next done7 ∧ exec (.wrOutLen 0xFF) done7 = .next done7 ∧
    exec (.wrErrPos 0xFF) done7 = .next done7 ∧ exec (.wrErrRgb 0xFF) done7 = .next done7 ∧
    exec (.wrPos 0xFF) done7 = .next done7 ∧ exec (.wrAcc 0xFF) done7 = .next done7 ∧
    exec (.wrCaps 0xFF) done7 = .next done7 := ⟨rfl, rfl, rfl, rfl, rfl, rfl, rfl⟩

/-- V-CTL14. -/
theorem test_write_only_reads :
    answers (exec .rdCtrl mid7) 0 = true ∧ answers (exec .rdPixel mid7) 0 = true ∧ answers (exec .rdRowEnd mid7) 0 = true ∧
    answers (exec .rdFrameEnd mid7) 0 = true := by decide

/-! ## START's checks (V-LEN, V-CAP, V-ALN, V-PRI) -/

theorem test_start_checks :
    holds (exec (.wrCtrl 1) (conf3 .rwb 8 2)) (fun t => t.outLen == 4 && t.statusWord == 1) = true ∧
    holds (exec (.wrCtrl 1) (conf7 16 8)) (fun t => t.outLen == 64 && t.statusWord == 1) = true ∧
    holds (exec (.wrCtrl 1) (conf7 16 9)) (fun t => t.outLen == 0 && t.statusWord == 0x223) = true ∧
    holds (exec (.wrCtrl 1) { conf7 3 100 with palLen := 6 }) (fun t => t.statusWord == 0x13) = true ∧
    holds (exec (.wrCtrl 1) (conf7 3 100)) (fun t => t.statusWord == 0x123) = true := by decide

/-! ## Palette (2.1) -/

/-- V-PAL1, V-PAL3. -/
theorem test_palette_write :
    holds (exec (.wrPal 5 0xAB123456) fresh) (fun t => t.palEntry 5 == 0x123456 && t.palEntry 4 == 0) = true := by decide

theorem test_palette_write_dropped :
    holds (exec (.wrPal 0 0x111111) mid7) (fun t => t.palEntry 0 == 0 && t.dropped) = true := by decide

theorem test_palette_read : answers (exec (.rdPal 6) mid7) 0x00FF8000 = true := by decide

/-- V-PAL2. -/
theorem test_palette_length : holds (exec (.wrPalLen 0x107) fresh) (fun t => t.palLen == 7) = true := by decide
theorem test_palette_length_read : answers (exec .rdPalLen (conf7 2 1)) 7 = true := by decide

/-- V-PAL4: the highest index wins; V-PAL5: an entry at N or above matches nothing. -/
theorem test_classify :
    State.classify { fresh with pal := #v[0, 0x090909, 0, 0, 0x090909, 0, 0, 0] } 0x090909 = some 4 ∧
    State.classify { conf3 .rwb 8 1 with pal := #v[0, 1, 2, 0x010203, 0, 0, 0, 0] } 0x010203 = none := by decide

/-! ## The stream (2.3) -/

/-- V-PK1: ACC0 = 0x23, then a pixel of code 4 makes 0x34. -/
theorem test_pixel_keeps_old_bits :
    holds (exec (.wrPixel 0xFF0000FF) { running (conf7 8 1) with x := 4, acc0 := 0x23 }) (fun t =>
      t.acc0 == 0x34 && t.x == 5 && t.outbuf == ⟨.zeroed, []⟩) = true := by decide

/-- P2 step 17: the eighth pixel stores a byte of each plane. -/
theorem test_pixel_stores_both_planes :
    holds (exec (.wrPixel 0x000000FF) mid3) (fun t =>
      t.outbuf == ⟨.zeroed, [(0, 0x88), (1, 0x22)]⟩ && t.acc0 == 0x88 && t.acc1 == 0x22 && t.x == 8) = true := by decide

/-- V-SH2 and V-SH4, and the accumulator trace of 2.3. -/
theorem test_row_end_too_short :
    holds (exec (.wrRowEnd 0) { running (conf7 2 2) with x := 1, y := 1, acc0 := 1 }) (fun t =>
      t.statusWord == 0x423 && t.errX == 1 && t.errY == 1 && t.outLen == 0 && t.acc0 == 1) = true := by decide

theorem test_row_end_accepted :
    holds (exec (.wrRowEnd 0) { running (conf7 2 1) with x := 2, acc0 := 0x20 }) (fun t =>
      t.x == 0 && t.y == 1 && t.acc0 == 0 && t.statusWord == 1) = true := by decide

/-- V-SH5; P1 step 20. -/
theorem test_frame_end_too_few :
    holds (exec (.wrFrameEnd 0) { running (conf7 2 2) with y := 1 }) (fun t =>
      t.statusWord == 0x623 && t.errY == 1 && t.errX == 0) = true := by decide

theorem test_frame_end_done :
    holds (exec (.wrFrameEnd 0) { running (conf7 2 1) with y := 1 }) (fun t => t.statusWord == 2 && t.outLen == 1) = true := by
  decide

/-! ## Witnesses: the hypotheses of the statements, met by concrete inputs -/

/-! ### Encoding and the port -/

theorem witness_EncodeDecodeRestoresWord :
    decode 0x40000060123456FF = .ok (.wrPixel 0x123456FF) ∧ decode 0x0000000412345678 = .ok .rdStatus := by decide

theorem witness_DecoderFollowsOpcodeMap :
    decode 0x4000005C00000001 = .ok (.wrPal 7 1) ∧
    (Instr.row (.wrPal 7 1)).selectedBy 0x4000005C00000001 = true ∧ Instr.row (.wrPal 7 1) ∈ opcodeTable ∧
    decode 0x0000006C00000000 = .error ⟨false, 0x6C, 0⟩ := by decide

/-- Each disjunct of R97's list, at its boundary, on the port. -/
theorem witness_ReservedAccessesAreIgnored :
    decode 0x0000010000000000 = .error ⟨false, 0x100, 0⟩ ∧ decode 0x0000000100000000 = .error ⟨false, 1, 0⟩ ∧
    decode 0x4000003800000005 = .error ⟨true, 0x38, 5⟩ ∧ decode 0x4000003C00000005 = .error ⟨true, 0x3C, 5⟩ ∧
    decode 0x0000006C00000000 = .error ⟨false, 0x6C, 0⟩ ∧ decode 0x000000FC00000000 = .error ⟨false, 0xFC, 0⟩ ∧
    (issue fresh [.txn 0x0000006C00000000]).port = .txn 0x0000006C00000000 :: [] := by decide

theorem witness_StepRunsDecodedInstruction :
    (issue mid7 [.txn 0x40000060FF0000FF, .reset]).port = .txn 0x40000060FF0000FF :: [.reset] ∧
    decode 0x40000060FF0000FF = .ok (.wrPixel 0xFF0000FF) := by decide

theorem witness_IdleStepsAndResetEvents : mid7.port = [] ∧ (issue mid7 [.reset, .txn 0]).port = .reset :: [.txn 0] := by decide

theorem witness_ResetValues :
    (issue failed7 [.reset]).port = .reset :: [] ∧
    step (issue failed7 [.reset]) = .next ((issue failed7 []).applyReset) := ⟨rfl, rfl⟩

theorem witness_ReadsHaveNoSideEffect :
    (issue mid7 [.txn 0x0000006000000000]).port = .txn 0x0000006000000000 :: [] ∧
    (0x0000006000000000 : TxnWord).getLsbD 62 = false := by decide

/-! ### Invariant states, one in each frame state -/

theorem witness_inv_idle : fresh.Inv := by
  constructor <;> simp [fresh, State.atReset, State.rowClear, ErrKind.admits]

theorem witness_inv_busy_one_plane : mid7.Inv where
  outbuf_wf := by decide
  outbuf_inside := by decide
  draw_taken := fun d h => nomatch h
  frame_cleared := fun _ => rfl
  busy_position := fun _ => by unfold State.inFrame; decide
  busy_accepts := fun _ => by unfold State.acceptsFrame; decide
  busy_length := fun _ => by decide
  busy_row_start := fun _ h => absurd h (by decide)
  busy_one_plane := fun _ _ => rfl
  done_position := fun h => nomatch h
  idle_position := fun h => nomatch h
  no_result := fun h => by revert h; decide
  error_kind := by decide
  error_detail := rfl
  error_position := fun _ => ⟨rfl, rfl⟩
  error_colour := fun _ => rfl
  tail_zero := fun _ a h => by
    have h : 4 ≤ a := h
    have : 0 ≠ a := by omega
    simp [mid7, running, Memory.read, cellAt, Fill.byte, this]

theorem witness_inv_busy_two_planes : mid3.Inv where
  outbuf_wf := by decide
  outbuf_inside := by decide
  draw_taken := fun d h => nomatch h
  frame_cleared := fun _ => rfl
  busy_position := fun _ => by unfold State.inFrame; decide
  busy_accepts := fun _ => by unfold State.acceptsFrame; decide
  busy_length := fun _ => by decide
  busy_row_start := fun _ h => absurd h (by decide)
  busy_one_plane := fun _ h => by revert h; decide
  done_position := fun h => nomatch h
  idle_position := fun h => nomatch h
  no_result := fun h => by revert h; decide
  error_kind := by decide
  error_detail := rfl
  error_position := fun _ => ⟨rfl, rfl⟩
  error_colour := fun _ => rfl
  tail_zero := fun _ _ _ => rfl

theorem witness_inv_error : failed7.Inv where
  outbuf_wf := by decide
  outbuf_inside := by decide
  draw_taken := fun d h => nomatch h
  frame_cleared := fun h => by revert h; decide
  busy_position := fun h => nomatch h
  busy_accepts := fun h => nomatch h
  busy_length := fun h => nomatch h
  busy_row_start := fun h => nomatch h
  busy_one_plane := fun h => nomatch h
  done_position := fun h => nomatch h
  idle_position := fun h => nomatch h
  no_result := fun _ => rfl
  error_kind := by decide
  error_detail := rfl
  error_position := fun h => absurd rfl h
  error_colour := fun h => absurd rfl h
  tail_zero := fun h => absurd h (by decide)

theorem witness_inv_done : done7.Inv where
  outbuf_wf := by decide
  outbuf_inside := by decide
  draw_taken := fun d h => nomatch h
  frame_cleared := fun _ => rfl
  busy_position := fun h => nomatch h
  busy_accepts := fun h => nomatch h
  busy_length := fun h => nomatch h
  busy_row_start := fun h => nomatch h
  busy_one_plane := fun h => nomatch h
  done_position := fun _ => ⟨rfl, ⟨rfl, rfl⟩, by decide⟩
  idle_position := fun h => nomatch h
  no_result := fun h => by revert h; decide
  error_kind := by decide
  error_detail := rfl
  error_position := fun _ => ⟨rfl, rfl⟩
  error_colour := fun _ => rfl
  tail_zero := fun _ a h => by
    have h : 1 ≤ a := h
    have : 0 ≠ a := by omega
    simp [done7, Memory.read, cellAt, Fill.byte, this]

/-- The invariant does not look at the port. -/
theorem inv_issue {s : State} (h : s.Inv) (es : List PortEvent) : (issue s es).Inv :=
  ⟨h.1, h.2, h.3, h.4, h.5, h.6, h.7, h.8, h.9, h.10, h.11, h.12, h.13, h.14, h.15, h.16, h.17⟩

/-- A PIXEL that completes a byte in both planes. -/
theorem witness_EveryStepKeepsInvariant :
    (issue mid3 [.txn 0x40000060000000FF]).Inv ∧
    holds (step (issue mid3 [.txn 0x40000060000000FF])) (fun t => t.x == 8) = true :=
  ⟨inv_issue witness_inv_busy_two_planes _, by decide⟩

theorem witness_InvariantStatesNeverStop : (issue mid3 [.txn 0x40000060000000FF]).Inv :=
  inv_issue witness_inv_busy_two_planes _

theorem witness_UnfinishedBytesStayZero :
    (issue mid7 [.txn 0x40000060000000FF]).Inv ∧ (issue mid7 [.txn 0x40000060000000FF]).restZero ∧
    holds (step (issue mid7 [.txn 0x40000060000000FF])) (fun t => t.frame == .busy && t.x == 3) = true := by
  refine ⟨inv_issue witness_inv_busy_one_plane _, fun _ p hp j hj _ => ?_, by decide⟩
  have hp : p < 1 := hp
  obtain rfl : p = 0 := by omega
  have hj : 1 ≤ j := hj
  rw [Nat.zero_mul, Nat.zero_add]
  show (Memory.mk .zeroed [(0, 0x12)]).read j = 0
  have : 0 ≠ j := by omega
  simp [Memory.read, cellAt, Fill.byte, this]

/-- The last pixel of the last row, in one plane and in two. -/
theorem witness_WriterStaysBelowOutLen :
    mid3.Inv ∧ mid3.frame = .busy ∧ mid3.y ≠ mid3.height ∧ mid3.x ≠ mid3.width ∧ mid3.mode.romPlanes = 2 ∧
    mid7.Inv ∧ mid7.frame = .busy ∧ mid7.y ≠ mid7.height ∧ mid7.x ≠ mid7.width :=
  ⟨witness_inv_busy_two_planes, rfl, by decide, by decide, by decide, witness_inv_busy_one_plane, rfl, by decide, by decide⟩

/-- An accepted PIXEL, and the same row with its last ROW_END. -/
theorem witness_PositionNeverWraps_pixel :
    mid3.Inv ∧ mid3.frame = .busy ∧
    holds (exec (.wrPixel 0x000000FF) mid3) (fun t => t.frame == .busy && t.x == 8) = true :=
  ⟨witness_inv_busy_two_planes, rfl, by decide⟩

theorem witness_PositionNeverWraps_row :
    (running (conf7 0 1)).Inv ∧ (running (conf7 0 1)).frame = .busy ∧
    holds (exec (.wrRowEnd 0) (running (conf7 0 1))) (fun t => t.frame == .busy && t.y == 1) = true := by
  refine ⟨?_, rfl, by decide⟩
  exact
    { outbuf_wf := by decide
      outbuf_inside := by decide
      draw_taken := fun d h => nomatch h
      frame_cleared := fun _ => rfl
      busy_position := fun _ => by unfold State.inFrame; decide
      busy_accepts := fun _ => by unfold State.acceptsFrame; decide
      busy_length := fun _ => by decide
      busy_row_start := fun _ _ => ⟨rfl, rfl⟩
      busy_one_plane := fun _ _ => rfl
      done_position := fun h => nomatch h
      idle_position := fun h => nomatch h
      no_result := fun h => by revert h; decide
      error_kind := by decide
      error_detail := rfl
      error_position := fun _ => ⟨rfl, rfl⟩
      error_colour := fun _ => rfl
      tail_zero := fun _ _ _ => rfl }

/-- A run that ends in RWB4, and a frame of no rows that ends in DONE. -/
theorem witness_SecondAccumulatorZeroOutsideRwb :
    holds (Host.Core.run Sys2Proof.core 1 (issue (State.atReset 64 0) [.txn 0x4000000800000002]))
      (fun t => t.mode == .rwb4) = true := by decide

theorem witness_DoneCountsHeightRows :
    holds (Host.Core.run Sys2Proof.core 3
      (issue (State.atReset 64 0) [.txn 0x4000001800000007, .txn 0x4000000000000001, .txn 0x4000006800000000]))
      (fun t => t.frame == .done) = true := by decide

/-- In DONE: a read keeps items 2 and 6 of R50, and a WR_HEIGHT (R139, R48) is one of the writes that need not. -/
theorem witness_WordedItemsKeptButForConfiguration :
    (issue done7 [.txn 0x0000000400000000]).Inv ∧ (issue done7 [.txn 0x0000000400000000]).AsWorded ∧
    holds (step (issue done7 [.txn 0x0000000400000000])) (fun t => t.frame == .done && t.y == t.height) = true ∧
    decode 0x4000001000000002 = .ok (.wrHeight 2) ∧
    holds (step (issue done7 [.txn 0x4000001000000002])) (fun t => t.frame == .done && t.y != t.height) = true :=
  ⟨inv_issue witness_inv_done _, ⟨fun _ => by decide, fun _ => rfl⟩, by decide, by decide, by decide⟩

/-- The history of `mid3`: the first seven pixels of P2. -/
def hist3 : FrameHistory := ⟨.rwb, 8, 1, [1, 0, 2, 0, 1, 0, 2]⟩

theorem witness_meetsR50_busy : mid3.MeetsR50 (some hist3) where
  item1 := fun _ => by unfold State.inFrame State.acceptsFrame; decide
  item1_frame := fun _ => ⟨hist3, rfl, rfl, rfl, rfl⟩
  item2 := fun h => nomatch h
  item3 := fun h => by revert h; decide
  item4 := by decide
  item5 := fun _ => ⟨hist3, rfl, by decide, by unfold State.holdsRow; decide, fun _ => by unfold State.holdsRow; decide⟩
  item6 := fun _ e hm => absurd ((Option.some.inj e).symm ▸ rfl) hm
  item6_no_frame := fun h => nomatch h

/-- The eighth pixel of P2, on the port. -/
theorem witness_EveryStepKeepsR50 :
    (issue mid3 [.txn 0x40000060000000FF]).Inv ∧ (issue mid3 [.txn 0x40000060000000FF]).MeetsR50 (some hist3) ∧
    holds (step (issue mid3 [.txn 0x40000060000000FF])) (fun t => t.frame == .busy && t.x == 8) = true ∧
    (issue mid3 [.txn 0x40000060000000FF]).historyAfter (some hist3) = some ⟨.rwb, 8, 1, [1, 0, 2, 0, 1, 0, 2, 0]⟩ := by
  have h := witness_meetsR50_busy
  exact ⟨inv_issue witness_inv_busy_two_planes _, ⟨h.1, h.2, h.3, h.4, h.5, h.6, h.7, h.8⟩, by decide, by decide⟩

/-- A run that ends in DONE with HEIGHT written since: the frame's height is still 0. -/
theorem witness_ReachableStatesMeetR50 :
    holds (Host.Core.run Sys2Proof.core 4 (issue (State.atReset 64 0)
        [.txn 0x4000001800000007, .txn 0x4000000000000001, .txn 0x4000006800000000, .txn 0x4000001000000002]))
      (fun t => t.frame == .done && t.height == 2) = true ∧
    historyRun 4 (issue (State.atReset 64 0)
        [.txn 0x4000001800000007, .txn 0x4000000000000001, .txn 0x4000006800000000, .txn 0x4000001000000002]) none =
      some ⟨.sevenColour, 0, 0, []⟩ := by decide

/-- The same run before the HEIGHT write: DONE, and the registers are the frame's. -/
theorem witness_UnchangedRegistersMeetWordedItems :
    holds (Host.Core.run Sys2Proof.core 3 (issue (State.atReset 64 0)
        [.txn 0x4000001800000007, .txn 0x4000000000000001, .txn 0x4000006800000000, .txn 0x4000001000000002]))
      (fun t => t.frame == .done && t.mode == .sevenColour && t.width == 0 && t.height == 0) = true ∧
    historyRun 3 (issue (State.atReset 64 0)
        [.txn 0x4000001800000007, .txn 0x4000000000000001, .txn 0x4000006800000000, .txn 0x4000001000000002]) none =
      some ⟨.sevenColour, 0, 0, []⟩ := by decide

/-- A completed 2×1 frame after `wr HEIGHT, 2`. -/
theorem witness_DoneReadsTheFramesShape :
    ({ done7 with height := 2 } : State).MeetsR50 (some ⟨.sevenColour, 2, 1, []⟩) ∧
    ({ done7 with height := 2 } : State).frame = .done :=
  ⟨{ item1 := fun h => nomatch h
     item1_frame := fun h => nomatch h
     item2 := fun _ => ⟨_, rfl, by decide⟩
     item3 := fun h => by revert h; decide
     item4 := by decide
     item5 := fun h => nomatch h
     item6 := fun _ _ _ => rfl
     item6_no_frame := fun h => nomatch h }, rfl⟩

/-! ### ROM, classifier and palette -/

theorem witness_RomContents :
    24 ≤ 31 ∧
    Mode.sevenColour ≠ .rwb ∧ (6 : Code).toNat < Mode.romN .sevenColour ∧ Mode.rwb4 ≠ .rwb ∧
    (2 : Code).toNat < Mode.romN .rwb4 ∧ (2 : Code).toNat < Mode.romN .rwb ∧ Mode.romN .rwb ≤ (3 : Code).toNat ∧
    Mode.romN .sevenColour ≤ (7 : Code).toNat := by decide

theorem witness_FieldMapIsInjective : (2 : Code).toNat < Mode.romN .rwb ∧ (6 : Code).toNat < Mode.romN .sevenColour := by decide

theorem witness_AlphaTakesNoPart : (0xFF00007F : Word).extractLsb' 8 24 = (0xFF000000 : Word).extractLsb' 8 24 := by decide

/-! ### Control -/

theorem witness_ConfigurationWrites :
    mid7.frame = .busy ∧ fresh.frame ≠ .busy ∧ done7.frame ≠ .busy ∧ failed7.frame ≠ .busy ∧
    (0x10 : Word).extractLsb' 0 2 = 0 ∧ (0x11 : Word).extractLsb' 0 2 = 1 ∧ (2 : Word).extractLsb' 0 2 = 2 ∧
    (7 : Word).extractLsb' 0 2 = 3 := by decide

theorem witness_AbortClearsFrame : (3 : Word).getLsbD 1 = true ∧ (2 : Word).getLsbD 1 = true := by decide

theorem witness_ControlWriteWithoutCommand :
    (0xFFFFFFFC : Word).getLsbD 0 = false ∧ (0xFFFFFFFC : Word).getLsbD 1 = false := by decide

/-- START alone, and each clause: V-PRI1, V-PRI2, one byte too many (V-CAP2), exactly full (V-CAP1), no pixels (V-PK9). -/
theorem witness_StartChecksThenOpensFrame :
    (1 : Word).getLsbD 1 = false ∧ (1 : Word).getLsbD 0 = true ∧
    ({ conf7 3 100 with palLen := 6 } : State).palLen.toNat ≠ Mode.romN .sevenColour ∧
    ((conf7 3 100).palLen.toNat = Mode.romN .sevenColour ∧ (conf7 3 100).width.toNat % Mode.romPack .sevenColour ≠ 0) ∧
    ((conf7 16 9).width.toNat % Mode.romPack .sevenColour = 0 ∧ (conf7 16 9).outbufBytes.val < (conf7 16 9).frameBytes) ∧
    ((conf7 16 8).width.toNat % Mode.romPack .sevenColour = 0 ∧ (conf7 16 8).frameBytes ≤ (conf7 16 8).outbufBytes.val) ∧
    ((conf7 2 0).width.toNat % Mode.romPack .sevenColour = 0 ∧ (conf7 2 0).frameBytes ≤ (conf7 2 0).outbufBytes.val) := by
  decide

theorem witness_ResultAndDiagnosticReads :
    fresh.Inv ∧ fresh.frame = .idle ∧ mid7.Inv ∧ mid7.frame = .busy ∧ mid7.errKind ≠ .unknownColor ∧ failed7.Inv ∧
    failed7.frame = .error :=
  ⟨witness_inv_idle, rfl, witness_inv_busy_one_plane, rfl, by decide, witness_inv_error, rfl⟩

theorem witness_CapacityIsReadAndConstant :
    holds (step (issue mid7 [.reset])) (fun t => t.frame == .idle) = true := by decide

theorem witness_OutputReads : (63 : Addr).toNat < fresh.outbufBytes.val ∧ fresh.outbufBytes.val ≤ (64 : Addr).toNat := by decide

/-! ### The stream -/

/-- A pixel that completes no byte, one that completes a byte at the last offset, and one that completes a byte of each plane. -/
theorem witness_PixelWrite_accepted :
    (mid7.frame = .busy ∧ mid7.y ≠ mid7.height ∧ mid7.x ≠ mid7.width ∧
      mid7.classify ((0x0000FFFF : Word).extractLsb' 8 24) = some 3 ∧ mid7.x.toNat % mid7.mode.romPack ≠ mid7.mode.romPack - 1) ∧
    (let s : State := { running (conf7 16 8) with x := 15, y := 7 };
      s.frame = .busy ∧ s.y ≠ s.height ∧ s.x ≠ s.width ∧ s.classify ((0x0000FFFF : Word).extractLsb' 8 24) = some 3 ∧
      s.x.toNat % s.mode.romPack = s.mode.romPack - 1 ∧ s.byteIndex = 63 ∧ s.byteIndex < s.outbufBytes.val) ∧
    (mid3.frame = .busy ∧ mid3.y ≠ mid3.height ∧ mid3.x ≠ mid3.width ∧
      mid3.classify ((0xFF0000FF : Word).extractLsb' 8 24) = some 2 ∧
      mid3.x.toNat % mid3.mode.romPack = mid3.mode.romPack - 1 ∧ mid3.mode.romPlanes = 2 ∧
      mid3.planeBytes + mid3.byteIndex < mid3.outbufBytes.val) := by decide

/-- A dropped PIXEL, and one for each check. -/
theorem witness_PixelWrite_checks :
    fresh.frame ≠ .busy ∧
    (let s : State := { running (conf7 2 1) with y := 1 };
      s.frame = .busy ∧ s.y = s.height) ∧
    (let s : State := { running (conf7 2 1) with x := 2 };
      s.frame = .busy ∧ s.y ≠ s.height ∧ s.x = s.width) ∧
    (mid7.frame = .busy ∧ mid7.y ≠ mid7.height ∧ mid7.x ≠ mid7.width ∧
      ∀ i : Code, i.toNat < mid7.mode.romN → mid7.palEntry i ≠ (0x123456FF : Word).extractLsb' 8 24) := by decide

theorem witness_RowEndWrite :
    done7.frame ≠ .busy ∧
    (let s : State := { running (conf7 2 1) with y := 1 };
      s.frame = .busy ∧ s.y = s.height) ∧
    (mid7.frame = .busy ∧ mid7.y ≠ mid7.height ∧ mid7.x ≠ mid7.width) ∧
    (let s : State := { running (conf7 2 1) with x := 2 };
      s.frame = .busy ∧ s.y ≠ s.height ∧ s.x = s.width) := by decide

theorem witness_FrameEndWrite :
    failed7.frame ≠ .busy ∧ (mid7.frame = .busy ∧ mid7.y ≠ mid7.height) ∧
    (let s : State := { running (conf7 2 1) with y := 1 };
      s.frame = .busy ∧ s.y = s.height) := by decide

theorem witness_NibbleByteForgetsOldBits :
    failed7.mode ≠ .rwb ∧ (6 : Code).toNat < failed7.mode.romN ∧ (conf3 .rwb4 2 1).mode ≠ .rwb ∧
    (2 : Code).toNat < (conf3 .rwb4 2 1).mode.romN := by decide

theorem witness_PlaneBytesForgetOldBits :
    mid3.mode = .rwb ∧ ([1, 0, 2, 0, 1, 0, 2, 0] : List Code).length = 8 ∧
    ∀ c ∈ ([1, 0, 2, 0, 1, 0, 2, 0] : List Code), c.toNat < 3 := by decide

/-! ### Whole-machine rules -/

/-- A stream error, and a START that fails. -/
theorem witness_ErrorsArePrecise :
    ((Instr.wrPixel 0x123456FF).isStream = true ∧ mid7.frame = .busy ∧
      holds (exec (.wrPixel 0x123456FF) mid7) (fun t => t.frame == .error) = true) ∧
    ((1 : Word).getLsbD 1 = false ∧ (1 : Word).getLsbD 0 = true ∧
      holds (exec (.wrCtrl 1) (conf7 3 1)) (fun t => t.frame == .error) = true) := by decide

/-- One step for each line of the transition table: reset, ABORT, START twice, FRAME_END and a stream error. -/
theorem witness_OnlyListedEventsChangeState :
    decode 0x4000000000000003 = .ok (.wrCtrl 3) ∧ decode 0x4000000000000001 = .ok (.wrCtrl 1) ∧
    decode 0x4000006800000000 = .ok (.wrFrameEnd 0) ∧
    holds (step (issue mid7 [.reset])) (fun t => t.frame == .idle) = true ∧
    holds (step (issue mid7 [.txn 0x4000000000000003])) (fun t => t.frame == .idle) = true ∧
    holds (step (issue (conf7 2 1) [.txn 0x4000000000000001])) (fun t => t.frame == .busy) = true ∧
    holds (step (issue fresh [.txn 0x4000000000000001])) (fun t => t.frame == .error) = true ∧
    holds (step (issue { running (conf7 2 1) with y := 1 } [.txn 0x4000006800000000])) (fun t => t.frame == .done) = true ∧
    holds (step (issue mid7 [.txn 0x40000060123456FF])) (fun t => t.frame == .error) = true := by decide

theorem witness_ConfigurationFixedInBusy :
    (issue mid7 [.txn 0x4000000C00000008]).frame = .busy ∧
    holds (step (issue mid7 [.txn 0x4000000C00000008])) (fun t => t.dropped) = true := by decide

/-- Both kinds of dropped write, a step that sets DROPPED, and a START and an ABORT that clear it. -/
theorem witness_DroppedIsSticky :
    ((Instr.wrWidth 4).isConfigWrite = true ∧ mid7.frame = .busy) ∧
    ((Instr.wrRowEnd 0).isStream = true ∧ failed7.frame ≠ .busy) ∧
    (failed7.dropped = false ∧ holds (step (issue failed7 [.txn 0x4000006400000000])) (fun t => t.dropped) = true) ∧
    (let s : State := { mid7 with dropped := true };
      s.dropped = true ∧ holds (step (issue s [.txn 0x4000000000000001])) (fun t => !t.dropped) = true ∧
      holds (step (issue s [.txn 0x4000000000000002])) (fun t => !t.dropped) = true) := by decide

/-- A byte stored by a PIXEL, and a byte cleared by a START. -/
theorem witness_OnlyWriterStoresOutput :
    (mid3.outbuf.read 1 = 0 ∧
      holds (step (issue mid3 [.txn 0x40000060000000FF])) (fun t => t.outbuf.read 1 == 0x22) = true) ∧
    (done7.outbuf.read 0 = 0x12 ∧
      holds (step (issue done7 [.txn 0x4000000000000001])) (fun t => t.outbuf.read 0 == 0) = true) := by decide

/-- Two states that differ in OUTBUF and in the draw counter, and a START. -/
theorem witness_ResetBytesNeverLeak :
    State.agrees (conf7 2 1) { conf7 2 1 with outbuf := ⟨.zeroed, [(0, 0x12)]⟩, draws := 5 } ∧
    (∀ a, decode 0x4000000000000001 ≠ .ok (.rdOut a)) ∧
    holds (perform 0x4000000000000001 (conf7 2 1)) (fun t => t.frame == .busy) = true ∧
    decode 0x4000000000000001 = .ok (.wrCtrl 1) ∧ (1 : Word).getLsbD 1 = false ∧ (1 : Word).getLsbD 0 = true := by
  have hd : decode 0x4000000000000001 = .ok (.wrCtrl 1) := by decide
  refine ⟨rfl, fun a h => ?_, by decide, hd, by decide, by decide⟩
  rw [hd] at h
  cases h

theorem classify_all {s : State} {l : List Word} (h : l.all (fun d => (s.classify (pixelKey d)).isSome) = true) :
    ∀ d ∈ l, s.classify (pixelKey d) ≠ none := by
  intro d hd e
  have hk := List.all_eq_true.1 h d hd
  rw [e] at hk
  cases hk

/-- WE1 (7C, 2×1), with an RD_STATUS between its pixels, and WE3 (RWB, 8×1). -/
theorem witness_FramePacksWholeImage :
    ((conf7 2 1).acceptsFrame ∧ (conf7 2 1).imageMatches [[0x00FF00FF, 0x000000FF]] ∧
      ([.txn 0x4000000000000001, .txn 0x4000006000FF00FF, .txn 0x0000000400000000, .txn 0x40000060000000FF,
          .txn 0x4000006400000000, .txn 0x4000006800000000] : List PortEvent).filter (fun e => !e.isRead) =
        frameEvents [[0x00FF00FF, 0x000000FF]] ∧ (conf7 2 1).mode ≠ .rwb) ∧
    ((conf3 .rwb 8 1).acceptsFrame ∧
      (conf3 .rwb 8 1).imageMatches [[0xFFFFFFFF, 0xFF, 0xFF0000FF, 0xFF, 0xFFFFFFFF, 0xFF, 0xFF0000FF, 0xFF]] ∧
      (conf3 .rwb 8 1).mode = .rwb) := by
  unfold State.acceptsFrame State.imageMatches
  refine ⟨⟨by decide, ⟨rfl, ?_⟩, by decide, by decide⟩, by decide, ⟨rfl, ?_⟩, rfl⟩
  all_goals
    intro row hr
    rw [List.mem_singleton.1 hr]
    exact ⟨rfl, classify_all (by decide)⟩

end Sys2Proof.Tests
end

section
/-! PROOFS, 00_scope.md: a step runs the operation its word decodes to (R8), and OUTBUF takes no part in anything but an OUT read
(R9). -/

namespace Sys2Proof.Machine

/-- Settles O7: the port law `step_event`, then the decoder law `perform_ok`, on the accepted state. -/
theorem stepRunsDecodedInstruction : Obligations.StepRunsDecodedInstruction := by
  intro s T rest i hport hdecode
  calc step s = perform T (s.accept rest) := step_event hport
    _ = exec i (s.accept rest) := perform_ok hdecode _

/-! ## States that differ in OUTBUF and the draw counter -/

/-- `s` with other contents of OUTBUF and another draw counter: what `State.agrees` leaves open. -/
def State.withOutput (s : State) (m : Memory) (k : Nat) : State := { s with outbuf := m, draws := k }

theorem State.agrees_iff_eq_withOutput {s t : State} : s.agrees t ↔ t = s.withOutput t.outbuf t.draws := eq_comm

theorem State.agrees_frame {s t : State} (h : s.agrees t) : t.frame = s.frame := by
  rw [State.agrees_iff_eq_withOutput.1 h]
  rfl

/-! ### What the shared operations read of such a state -/

@[simp] theorem State.withOutput_classify (s : State) (m : Memory) (k : Nat) (key : Key) :
    (s.withOutput m k).classify key = s.classify key := rfl

@[simp] theorem State.withOutput_readReg (s : State) (m : Memory) (k : Nat) (r : Reg) :
    (s.withOutput m k).readReg r = s.readReg r := by
  cases r <;> rfl

/-! ### What the shared operations do to two such states -/

theorem State.agrees_ite {c : Prop} [Decidable c] {s₁ s₂ t₁ t₂ : State} (h₁ : s₁.agrees t₁) (h₂ : s₂.agrees t₂) :
    (if c then s₁ else s₂).agrees (if c then t₁ else t₂) := by
  by_cases h : c
  · rwa [if_pos h, if_pos h]
  · rwa [if_neg h, if_neg h]

theorem State.writeMode_agrees (s : State) (m : Memory) (k : Nat) (d : Word) :
    (s.writeMode d).agrees ((s.withOutput m k).writeMode d) := by
  unfold State.writeMode
  cases modeField d <;> rfl

/-- The gate of R136 reads STATE alone: it lets a write through in both states or in neither. -/
theorem State.cfgWrite_agrees {f : State → State} {s : State} {m : Memory} {k : Nat}
    (hf : (f s).agrees (f (s.withOutput m k))) : (s.cfgWrite f).agrees ((s.withOutput m k).cfgWrite f) := by
  unfold State.cfgWrite
  exact agrees_ite rfl hf

theorem State.reservedAccess_agrees (s : State) (m : Memory) (k : Nat) (r : ReservedAccess) :
    (s.reservedAccess r).agrees ((s.withOutput m k).reservedAccess r) := by
  unfold State.reservedAccess
  exact agrees_ite rfl rfl

/-- START decides on the configuration and the capacity alone (R131). -/
theorem State.startFrame_agrees (s : State) (m : Memory) (k : Nat) : s.startFrame.agrees (s.withOutput m k).startFrame := by
  unfold State.startFrame
  exact agrees_ite rfl (agrees_ite rfl (agrees_ite rfl rfl))

/-- A START that opens a frame has cleared OUTBUF (R131): the errors leave STATE = ERROR. -/
theorem State.startFrame_outbuf_of_busy {s : State} (h : s.startFrame.frame = .busy) :
    s.startFrame.outbuf = Memory.cleared := by
  rcases s.startFrame_cases with ⟨_, e⟩ | ⟨_, _, e⟩ | ⟨_, _, _, e⟩ | ⟨_, e⟩
  · rw [e] at h; cases h
  · rw [e] at h; cases h
  · rw [e] at h; cases h
  · rw [e]; rfl

/-! ## Two operations that answer alike -/

/-- Where the first outcome is a next state so is the second, and the two states agree. -/
def AnswersAlike (o o' : Host.Outcome State Fault Refusal) : Prop :=
  ∀ s', o = .next s' → ∃ t', o' = .next t' ∧ s'.agrees t'

theorem AnswersAlike.next {s t : State} (h : s.agrees t) : AnswersAlike (.next s) (.next t) := by
  rintro _ ⟨⟩
  exact ⟨t, rfl, h⟩

/-- Two branches on a condition that both sides share. -/
theorem AnswersAlike.ite {c : Prop} [Decidable c] {o₁ o₂ o₁' o₂' : Host.Outcome State Fault Refusal}
    (h₁ : AnswersAlike o₁ o₁') (h₂ : AnswersAlike o₂ o₂') :
    AnswersAlike (if c then o₁ else o₂) (if c then o₁' else o₂') := by
  by_cases h : c
  · rwa [if_pos h, if_pos h]
  · rwa [if_neg h, if_neg h]

theorem readReg_alike (s : State) (m : Memory) (k : Nat) (r : Reg) :
    AnswersAlike (.next (s.respond (s.readReg r)))
      (.next ((s.withOutput m k).respond ((s.withOutput m k).readReg r))) := by
  rw [State.withOutput_readReg]
  exact .next rfl

theorem execWrCtrl_alike (d : Word) (s : State) (m : Memory) (k : Nat) :
    AnswersAlike (execWrCtrl d s) (execWrCtrl d (s.withOutput m k)) := by
  unfold execWrCtrl
  exact .ite (.next rfl) (.ite (.next (s.startFrame_agrees m k)) (.next rfl))

/-- The writer stores what the accumulators hold, at offsets of the position and the configuration (R180, R185). -/
theorem acceptPixel_alike (c : Code) (s : State) (m : Memory) (k : Nat) :
    AnswersAlike (s.acceptPixel c) ((s.withOutput m k).acceptPixel c) := by
  intro s' h
  obtain ⟨inside, rfl⟩ := State.acceptPixel_inv h
  exact ⟨_, State.acceptPixel_next (s := s.withOutput m k) c inside, rfl⟩

theorem execWrPixel_alike (d : Word) (s : State) (m : Memory) (k : Nat) :
    AnswersAlike (execWrPixel d s) (execWrPixel d (s.withOutput m k)) := by
  unfold execWrPixel
  refine .ite (.next rfl) (.ite (.next rfl) (.ite (.next rfl) ?_))
  rw [State.withOutput_classify]
  cases s.classify (pixelKey d) with
  | none => exact .next rfl
  | some c => exact acceptPixel_alike c s m k

theorem execWrRowEnd_alike (d : Word) (s : State) (m : Memory) (k : Nat) :
    AnswersAlike (execWrRowEnd d s) (execWrRowEnd d (s.withOutput m k)) := by
  unfold execWrRowEnd
  exact .ite (.next rfl) (.ite (.next rfl) (.ite (.next rfl) (.next rfl)))

theorem execWrFrameEnd_alike (d : Word) (s : State) (m : Memory) (k : Nat) :
    AnswersAlike (execWrFrameEnd d s) (execWrFrameEnd d (s.withOutput m k)) := by
  unfold execWrFrameEnd
  exact .ite (.next rfl) (.ite (.next rfl) (.next rfl))

/-- Only an OUT read sees OUTBUF: every other operation answers alike whatever it holds (R9). -/
theorem exec_alike {i : Instr} (hi : ∀ a, i ≠ .rdOut a) (s : State) (m : Memory) (k : Nat) :
    AnswersAlike (exec i s) (exec i (s.withOutput m k)) := by
  cases i with
  | rdOut a => exact absurd rfl (hi a)
  | wrCtrl d => exact execWrCtrl_alike d s m k
  | wrPixel d => exact execWrPixel_alike d s m k
  | wrRowEnd d => exact execWrRowEnd_alike d s m k
  | wrFrameEnd d => exact execWrFrameEnd_alike d s m k
  | wrMode d => exact .next (State.cfgWrite_agrees (s.writeMode_agrees m k d))
  | wrWidth | wrHeight | wrPlanes | wrPalLen | wrPal => exact .next (State.cfgWrite_agrees rfl)
  | wrInten | wrStatus | wrOutLen | wrErrPos | wrErrRgb | wrPos | wrAcc | wrCaps | wrOut => exact .next rfl
  | rdCtrl | rdStatus | rdMode | rdWidth | rdHeight | rdPlanes | rdPalLen | rdInten | rdOutLen | rdErrPos | rdErrRgb
  | rdPos | rdAcc | rdCaps | rdPal | rdPixel | rdRowEnd | rdFrameEnd => exact readReg_alike s m k _

/-- Every word that is no OUT read, reserved ones included. -/
theorem perform_alike {T : TxnWord} (hT : ∀ a, decode T ≠ .ok (.rdOut a)) {s t : State} (h : s.agrees t) :
    AnswersAlike (perform T s) (perform T t) := by
  rw [State.agrees_iff_eq_withOutput.1 h]
  cases hd : decode T with
  | ok i =>
    rw [perform_ok hd, perform_ok hd]
    exact exec_alike (fun a hi => hT a (hi ▸ hd)) s t.outbuf t.draws
  | error r =>
    rw [perform_error hd, perform_error hd]
    exact .next (s.reservedAccess_agrees t.outbuf t.draws r)

/-- A performed START that ends in BUSY leaves OUTBUF cleared, whatever it held. -/
theorem perform_start_outbuf {T : TxnWord} {d : Word} {s s' : State} (hd : decode T = .ok (.wrCtrl d))
    (hAbort : d.getLsbD 1 = false) (hStart : d.getLsbD 0 = true) (h : perform T s = .next s') (hb : s'.frame = .busy) :
    s'.outbuf = Memory.cleared := by
  have ha : abortBit d = false := hAbort
  have hs : startBit d = true := hStart
  have he : execWrCtrl d s = .next s.startFrame := by simp [execWrCtrl, ha, hs]
  rw [perform_ok hd] at h
  cases he.symm.trans h
  exact State.startFrame_outbuf_of_busy hb

/-- Settles O46: the two states answer alike, and a START that opens a frame clears OUTBUF in both. -/
theorem resetBytesNeverLeak : Obligations.ResetBytesNeverLeak := by
  intro s t s' T h hT hs
  obtain ⟨t', ht, ha⟩ := perform_alike hT h s' hs
  refine ⟨t', ht, ha, fun d hd hAbort hStart hb => ?_⟩
  have hb' : t'.frame = .busy := (State.agrees_frame ha).trans hb
  rw [perform_start_outbuf hd hAbort hStart hs hb, perform_start_outbuf hd hAbort hStart ht hb']

end Sys2Proof.Machine
end

section
/-! PROOFS, 10_state.md: the invariant (R50 as log entry 10 weakens it, R44, R74), kept by every step. -/

namespace Sys2Proof.Machine

/-! ## The position and the writer's offsets -/

/-- A counter below its bound does not wrap at 16 bits (R22). -/
theorem Dim.toNat_add_one {v b : Dim} (h : v.toNat < b.toNat) : (v + 1).toNat = v.toNat + 1 := by
  have hb : v.toNat + (1 : Dim).toNat < 2 ^ 16 := lt_of_le_of_lt h b.isLt
  exact BitVec.toNat_add_of_lt hb

theorem Dim.toNat_lt_of_ne {v b : Dim} (hle : v.toNat ≤ b.toNat) (hne : v ≠ b) : v.toNat < b.toNat :=
  lt_of_le_of_ne hle fun e => hne (BitVec.eq_of_toNat_eq e)

/-- The pixel at (X, Y) of an image of whole bytes lies in a byte of its plane (R185). -/
theorem State.byteIndex_lt_planeBytes {s : State} (hy : s.y.toNat < s.height.toNat) (hx : s.x.toNat < s.width.toNat)
    (hw : s.width.toNat % s.mode.romPack = 0) : s.byteIndex < s.planeBytes := by
  have hdvd : s.mode.romPack ∣ s.height.toNat * s.width.toNat := (Nat.dvd_of_mod_eq_zero hw).mul_left _
  have hlt : s.y.toNat * s.width.toNat + s.x.toNat < s.height.toNat * s.width.toNat :=
    calc s.y.toNat * s.width.toNat + s.x.toNat
        < (s.y.toNat + 1) * s.width.toNat := by rw [Nat.add_one_mul]; omega
      _ ≤ s.height.toNat * s.width.toNat := Nat.mul_le_mul_right _ hy
  exact Nat.div_lt_div_of_lt_of_dvd hdvd hlt

/-- OUTBUF at and above the frame's length is not what an accepted pixel stores to (R185). -/
theorem State.outbufAfter_read_of_frameBytes_le {s : State} (hi : s.byteIndex < s.planeBytes) (c : Code) {a : Nat}
    (ha : s.frameBytes ≤ a) : (s.outbufAfter c).read a = s.outbuf.read a := by
  have hfb : s.frameBytes = s.mode.romPlanes * s.planeBytes := rfl
  have hle : s.planeBytes ≤ s.frameBytes :=
    Nat.le_mul_of_pos_left _ (by rcases s.mode.romPlanes_cases with h | h <;> omega)
  rw [State.outbufAfter_read, if_neg, if_neg]
  · rintro ⟨_, rfl⟩
    omega
  · rintro ⟨_, hp, rfl⟩
    rw [hp] at hfb
    omega

/-- Every cell after an accepted pixel was there before or is one of the addresses stored to. -/
theorem State.mem_outbufAfter {s : State} {c : Code} {e : Host.Cell} (h : e ∈ (s.outbufAfter c).cells) :
    e ∈ s.outbuf.cells ∨
      (s.completesByte = true ∧ (e.1 = s.byteIndex ∨ (s.mode.romPlanes = 2 ∧ e.1 = s.planeBytes + s.byteIndex))) := by
  by_cases hc : s.completesByte = true
  · rw [State.outbufAfter, if_pos hc] at h
    exact (State.mem_storedOut h).imp id fun h => ⟨hc, h⟩
  · rw [State.outbufAfter, if_neg hc] at h
    exact .inl h

/-- In a mode of one plane ACC1 is not written (R181): where it is 0 it stays 0. -/
theorem State.nextAcc1_eq_zero (s : State) (hp : s.mode.romPlanes = 1) (h : s.acc1 = 0) (c : Code) :
    s.nextAcc1 c = 0 := by
  simp [State.nextAcc1, hp, h]

/-! ## START, as an error entry from the cleared state or an open frame -/

theorem State.startFrame_refuses_or_opens (s : State) :
    (¬ s.acceptsFrame ∧ ∃ k e, k ≠ .none ∧ k.admits e = true ∧ s.startFrame = s.abortFrame.raiseError k e 0 0 0) ∨
    (s.acceptsFrame ∧ s.startFrame = s.clearFrame.openFrame s.frameBytes) := by
  rcases s.startFrame_cases with ⟨hp, e⟩ | ⟨_, hw, e⟩ | ⟨_, _, hc, e⟩ | h
  · exact .inl ⟨fun ⟨h, _, _⟩ => hp h, _, _, by decide, rfl, e⟩
  · exact .inl ⟨fun ⟨_, h, _⟩ => hw h, _, _, by decide, rfl, e⟩
  · exact .inl ⟨fun ⟨_, _, h⟩ => absurd h (not_le.2 hc), _, _, by decide, rfl, e⟩
  · exact .inr h

/-! ## What keeps the invariant -/

/-- The invariant does not look at DROPPED, INTEN, the read response or the port. -/
theorem State.Inv.with_unread {s : State} (h : s.Inv) (d : Bool) (n : BitVec 2) (r : Option Word) (p : List PortEvent) :
    State.Inv { s with dropped := d, inten := n, rdata := r, port := p } :=
  { h with }

theorem State.Inv.accept {s : State} (h : s.Inv) (rest : List PortEvent) : (s.accept rest).Inv :=
  h.with_unread _ _ _ rest

/-- Outside BUSY the invariant does not look at the configuration (R48). -/
theorem State.Inv.configure {s : State} (h : s.Inv) (hs : s.frame ≠ .busy) (m : Mode) (w ht : Dim) (p : Word) (l : Byte)
    (pal : Vector Key 8) :
    State.Inv { s with mode := m, width := w, height := ht, planes := p, palLen := l, pal := pal } :=
  { h with
    busy_position := fun hb => absurd hb hs
    busy_accepts := fun hb => absurd hb hs
    busy_length := fun hb => absurd hb hs
    busy_row_start := fun hb => absurd hb hs
    busy_one_plane := fun hb => absurd hb hs }

theorem State.Inv.atReset (cap : Capacity) (draw : Nat) (p : List PortEvent) :
    State.Inv { State.atReset cap draw with port := p } := by
  constructor <;> simp [State.atReset, State.rowClear, ErrKind.admits]

theorem State.Inv.abort {s : State} (h : s.Inv) : s.abortFrame.Inv where
  outbuf_wf := h.outbuf_wf
  outbuf_inside := h.outbuf_inside
  draw_taken := h.draw_taken
  frame_cleared := by simp
  busy_position := by simp
  busy_accepts := by simp
  busy_length := by simp
  busy_row_start := by simp
  busy_one_plane := by simp
  done_position := by simp
  idle_position := fun _ => ⟨rfl, rfl, rfl, rfl⟩
  no_result := fun _ => rfl
  error_kind := by simp
  error_detail := rfl
  error_position := fun _ => ⟨rfl, rfl⟩
  error_colour := fun _ => rfl
  tail_zero := by simp

/-- Error entry, from any state of the invariant (R215). -/
theorem State.Inv.raiseError {s : State} (h : s.Inv) {k : ErrKind} {e : ErrDetail} {rgb : Key} (hk : k ≠ .none)
    (he : k.admits e = true) (hr : k ≠ .unknownColor → rgb = 0) (x y : Dim) : (s.raiseError k e x y rgb).Inv where
  outbuf_wf := h.outbuf_wf
  outbuf_inside := h.outbuf_inside
  draw_taken := h.draw_taken
  frame_cleared := by simp
  busy_position := by simp
  busy_accepts := by simp
  busy_length := by simp
  busy_row_start := by simp
  busy_one_plane := by simp
  done_position := by simp
  idle_position := by simp
  no_result := fun _ => rfl
  error_kind := by simp [hk]
  error_detail := he
  error_position := by simp
  error_colour := hr
  tail_zero := by simp

/-- An accepted START (R131). -/
theorem State.Inv.opened {s : State} (ha : s.acceptsFrame) : (s.clearFrame.openFrame s.frameBytes).Inv where
  outbuf_wf := rfl
  outbuf_inside := by simp [Memory.cleared]
  draw_taken := by simp [Memory.cleared]
  frame_cleared := fun _ => rfl
  busy_position := fun _ => by simp [State.inFrame]
  busy_accepts := fun _ => ha
  busy_length := fun _ => State.frameBytes_toNat ha.2.2
  busy_row_start := fun _ _ => ⟨rfl, rfl⟩
  busy_one_plane := fun _ _ => rfl
  done_position := by simp
  idle_position := by simp
  no_result := by simp
  error_kind := by simp
  error_detail := rfl
  error_position := fun _ => ⟨rfl, rfl⟩
  error_colour := fun _ => rfl
  tail_zero := fun _ a _ => Memory.read_cleared a

theorem State.Inv.start {s : State} (h : s.Inv) : s.startFrame.Inv := by
  rcases s.startFrame_refuses_or_opens with ⟨_, k, e, hk, he, eq⟩ | ⟨ha, eq⟩
  · rw [eq]
    exact h.abort.raiseError hk he (fun _ => rfl) 0 0
  · rw [eq]
    exact .opened ha

section Busy

variable {s : State} (h : s.Inv) (hs : s.frame = .busy)
include h hs

theorem State.Inv.no_error_of_busy : s.errKind = .none ∧ s.errX = 0 ∧ s.errY = 0 := by
  have hne : s.frame ≠ .error := by simp [hs]
  exact ⟨not_not.1 (mt h.error_kind.1 hne), h.error_position hne⟩

theorem State.Inv.y_lt_height (hy : s.y ≠ s.height) : s.y.toNat < s.height.toNat := by
  obtain ⟨hle, _, _⟩ := h.busy_position hs
  exact Dim.toNat_lt_of_ne hle hy

theorem State.Inv.x_lt_width (hx : s.x ≠ s.width) : s.x.toNat < s.width.toNat := by
  obtain ⟨_, hle, _⟩ := h.busy_position hs
  exact Dim.toNat_lt_of_ne hle hx

theorem State.Inv.byteIndex_lt (hy : s.y ≠ s.height) (hx : s.x ≠ s.width) : s.byteIndex < s.planeBytes := by
  obtain ⟨_, hw, _⟩ := h.busy_accepts hs
  exact State.byteIndex_lt_planeBytes (h.y_lt_height hs hy) (h.x_lt_width hs hx) hw

/-- An accepted PIXEL (R180). -/
theorem State.Inv.pixel (hy : s.y ≠ s.height) (hx : s.x ≠ s.width) (c : Code)
    (hr : s.completesByte = true → s.byteIndex < s.outbufBytes.val ∧
      (s.mode.romPlanes = 2 → s.planeBytes + s.byteIndex < s.outbufBytes.val)) :
    State.Inv { s with
      x := s.x + 1, acc0 := s.nextAcc0 c, acc1 := s.nextAcc1 c, outbuf := s.outbufAfter c } := by
  have hlt := h.x_lt_width hs hx
  have hnext : (s.x + 1).toNat = s.x.toNat + 1 := Dim.toNat_add_one hlt
  exact { h with
    outbuf_wf := State.outbufAfter_wf h.outbuf_wf c
    outbuf_inside := fun e he => by
      rcases State.mem_outbufAfter he with he | ⟨hc, e0 | ⟨hp, e1⟩⟩
      · exact h.outbuf_inside e he
      · exact e0 ▸ (hr hc).1
      · exact e1 ▸ (hr hc).2 hp
    draw_taken := fun d hd => h.draw_taken d ((s.outbufAfter_fill c).symm.trans hd)
    frame_cleared := fun hf => (s.outbufAfter_fill c).trans (h.frame_cleared hf)
    busy_position := fun _ => ⟨(h.y_lt_height hs hy).le, hnext ▸ hlt, fun e => absurd e hy⟩
    busy_row_start := fun _ h0 => by
      have : (s.x + 1).toNat = 0 := congrArg BitVec.toNat h0
      omega
    busy_one_plane := fun _ hp => s.nextAcc1_eq_zero hp (h.busy_one_plane hs hp) c
    done_position := fun hd => by cases hs.symm.trans hd
    idle_position := fun hi => by cases hs.symm.trans hi
    tail_zero := fun hf a ha => by
      have hle : s.frameBytes ≤ a := h.busy_length hs ▸ ha
      exact (State.outbufAfter_read_of_frameBytes_le (h.byteIndex_lt hs hy hx) c hle).trans (h.tail_zero hf a ha) }

/-- An accepted ROW_END (R190). -/
theorem State.Inv.endRow (hy : s.y ≠ s.height) : s.endRow.Inv := by
  have hlt := h.y_lt_height hs hy
  exact { h with
    busy_position := fun _ => ⟨by rw [State.endRow_y, Dim.toNat_add_one hlt]; exact hlt, Nat.zero_le _, fun _ => rfl⟩
    busy_row_start := fun _ _ => ⟨rfl, rfl⟩
    busy_one_plane := fun _ _ => rfl
    done_position := fun hd => by cases hs.symm.trans hd
    idle_position := fun hi => by cases hs.symm.trans hi }

/-- An accepted FRAME_END (R195). -/
theorem State.Inv.finish (hy : s.y = s.height) : (s.setFrame .done).Inv := by
  obtain ⟨_, _, hend⟩ := h.busy_position hs
  obtain ⟨_, _, hcap⟩ := h.busy_accepts hs
  obtain ⟨hk, hex, hey⟩ := h.no_error_of_busy hs
  exact { h with
    frame_cleared := fun _ => h.frame_cleared (.inl hs)
    busy_position := by simp
    busy_accepts := by simp
    busy_length := by simp
    busy_row_start := by simp
    busy_one_plane := by simp
    done_position := fun _ => ⟨hend hy, h.busy_row_start hs (hend hy), (h.busy_length hs).trans_le hcap⟩
    idle_position := by simp
    no_result := by simp
    error_kind := by simp [hk]
    error_position := fun _ => ⟨hex, hey⟩
    tail_zero := fun _ => h.tail_zero (.inl hs) }

end Busy

/-- A reserved access does what an ignored write and a read can do, whatever the operation (R97). -/
theorem Effect.of_reserved (i : Instr) {s : State} (r : ReservedAccess) : Effect i s (s.reservedAccess r) := by
  unfold State.reservedAccess
  split_ifs
  · exact .nothing
  · exact .responds 0

/-- Every effect of an operation keeps the invariant. -/
theorem Effect.keeps_inv {i : Instr} {s t : State} (e : Effect i s t) (h : s.Inv) : t.Inv := by
  cases e with
  | nothing => exact h
  | responds v => exact h.with_unread s.dropped s.inten (some v) s.port
  | drops _ => exact h.with_unread true s.inten s.rdata s.port
  | enables v => exact h.with_unread s.dropped v s.rdata s.port
  | configures _ hs m w ht p l pal => exact h.configure hs m w ht p l pal
  | aborts _ _ _ => exact h.abort
  | starts _ _ _ _ => exact h.start
  | fails _ _ k e rgb hk he hr => exact h.raiseError hk he hr s.x s.y
  | packs _ c _ hs hy hx _ hr => exact h.pixel hs hy hx c hr
  | endsRow _ _ hs hy _ => exact h.endRow hs hy
  | endsFrame _ _ hs hy => exact h.finish hs hy

/-- Settles O11: an idle step, a reset event, an effect of an operation or a reserved access. -/
theorem everyStepKeepsInvariant : Obligations.EveryStepKeepsInvariant := by
  intro s t h hstep
  rcases step_cases hstep with ⟨_, rfl⟩ | ⟨rest, _, rfl⟩ | ⟨_, rest, _, _, _, he⟩ | ⟨_, rest, r, _, _, rfl⟩
  · exact h
  · exact .atReset s.outbufBytes s.draws rest
  · exact (exec_effect he).keeps_inv (h.accept rest)
  · exact (Effect.of_reserved .rdStatus r).keeps_inv (h.accept rest)

/-- Settles O10. -/
theorem invariantHoldsAtReset : Obligations.InvariantHoldsAtReset := .atReset Config.outbufBytes 0 []

end Sys2Proof.Machine
end

section
/-! PROOFS, 10_state.md: R50 itself over the frame of the last accepted START (log entry 10), and over the registers as they
stand. -/

namespace Sys2Proof.Machine

/-! ## The accumulators hold the current row (R181, R50 item 5) -/

theorem packedCodes_append (fb : Nat) (field : Code → BitVec 4) (cs : List Code) (c : Code) :
    packedCodes fb field (cs ++ [c]) = shiftIn (packedCodes fb field cs) fb (field c) := by
  simp [packedCodes, List.foldl_append]

theorem shiftIn_getLsbD (acc : Byte) (fb : Nat) (v : BitVec 4) (k : Nat) :
    (shiftIn acc fb v).getLsbD k =
      ((decide (k < 8) && !decide (k < fb) && acc.getLsbD (k - fb)) || (v.setWidth 8).getLsbD k) := by
  rw [shiftIn, BitVec.getLsbD_or, BitVec.getLsbD_shiftLeft]

/-- Accumulators that agree in their low `n` fields agree in `n + 1` after the same field is shifted into both. -/
theorem shiftIn_agree {a b : Byte} {fb n : Nat} (v : BitVec 4) (h : ∀ k < n * fb, a.getLsbD k = b.getLsbD k) :
    ∀ k < (n + 1) * fb, (shiftIn a fb v).getLsbD k = (shiftIn b fb v).getLsbD k := by
  intro k hk
  rw [shiftIn_getLsbD, shiftIn_getLsbD]
  by_cases hlow : k < fb
  · simp [hlow]
  · rw [h (k - fb) (by rw [Nat.add_one_mul] at hk; omega)]

/-- The next position in a byte of `p` pixels: the first of a new byte, or one further on. -/
theorem add_one_mod_cases (x : Nat) {p : Nat} (hp : 0 < p) : (x + 1) % p = 0 ∨ (x + 1) % p = x % p + 1 := by
  have hlt : x % p + 1 ≤ p := Nat.mod_lt x hp
  rw [← Nat.mod_add_mod]
  rcases hlt.lt_or_eq with h | h
  · exact .inr (Nat.mod_eq_of_lt h)
  · exact .inl (by rw [h, Nat.mod_self])

theorem State.holdsRow_nil {s : State} (hx : s.x = 0) (field : Code → BitVec 4) : s.holdsRow [] 0 field := by
  refine ⟨rfl, fun k hk => ?_⟩
  simp [hx] at hk

/-- One more pixel: the accumulator takes its field, and the partial byte, if it goes on, one code more. -/
theorem State.holdsRow.snoc {s : State} {row : List Code} {acc : Byte} {field : Code → BitVec 4}
    (h : s.holdsRow row acc field) (hx : (s.x + 1).toNat = s.x.toNat + 1) (c : Code) (a0 a1 : Byte) (m : Memory) :
    State.holdsRow { s with x := s.x + 1, acc0 := a0, acc1 := a1, outbuf := m } (row ++ [c])
      (shiftIn acc s.mode.romFb (field c)) field := by
  obtain ⟨hacc, hlow⟩ := h
  refine ⟨by rw [packedCodes_append, ← hacc], ?_⟩
  rw [hx]
  rcases add_one_mod_cases s.x.toNat s.mode.romPack_pos with h0 | h1
  · simp [h0]
  · have hdrop : (row ++ [c]).drop ((row ++ [c]).length - (s.x.toNat % s.mode.romPack + 1)) =
        row.drop (row.length - s.x.toNat % s.mode.romPack) ++ [c] := by
      rw [List.length_append, List.length_singleton, Nat.add_sub_add_right, List.drop_append_of_le_length (Nat.sub_le ..)]
    rw [h1, hdrop, packedCodes_append]
    exact shiftIn_agree (field c) hlow

/-! ## R50 from the invariant and what looks back at the frame -/

/-- Only RWB has two planes (R112). -/
theorem Mode.romPlanes_of_ne_rwb {m : Mode} (h : m ≠ .rwb) : m.romPlanes = 1 := by
  cases m with
  | rwb => exact absurd rfl h
  | sevenColour | rwb4 => rfl

/-- Where no frame runs or is complete, R50 over the frame is the invariant and item 6. -/
theorem State.MeetsR50.of_no_output {t : State} {f : Option FrameHistory} (h : t.Inv) (hb : t.frame ≠ .busy)
    (hd : t.frame ≠ .done) (h6 : ∀ g, f = some g → g.mode ≠ .rwb → t.acc1 = 0) (h6' : f = none → t.acc1 = 0) :
    t.MeetsR50 f where
  item1 := fun e => absurd e hb
  item1_frame := fun e => absurd e hb
  item2 := fun e => absurd e hd
  item3 := h.no_result
  item4 := h.error_kind
  item5 := fun e => absurd e hb
  item6 := h6
  item6_no_frame := h6'

/-- In BUSY, R50 over the frame is the invariant, a history whose registers are the frame's, and items 5 and 6. -/
theorem State.MeetsR50.of_busy {t : State} {g : FrameHistory} (h : t.Inv) (hb : t.frame = .busy)
    (hg : g.mode = t.mode ∧ g.width = t.width ∧ g.height = t.height) (hrow : g.row.length = t.x.toNat)
    (h0 : t.holdsRow g.row t.acc0 t.mode.romField0)
    (h1 : t.mode.romPlanes = 2 → t.holdsRow g.row t.acc1 t.mode.romField1) (h6 : g.mode ≠ .rwb → t.acc1 = 0) :
    t.MeetsR50 (some g) where
  item1 := fun _ => ⟨h.busy_position hb, h.busy_accepts hb, h.busy_length hb⟩
  item1_frame := fun _ => ⟨g, rfl, hg⟩
  item2 := fun e => by cases hb.symm.trans e
  item3 := h.no_result
  item4 := h.error_kind
  item5 := fun _ => ⟨g, rfl, hrow, h0, h1⟩
  item6 := fun _ e => Option.some.inj e ▸ h6
  item6_no_frame := nofun

/-- In BUSY there is one frame: its registers, its current row and its accumulators, taken apart. -/
theorem State.MeetsR50.busy_history {s : State} {f : Option FrameHistory} (h : s.MeetsR50 f) (hs : s.frame = .busy) :
    ∃ g, f = some g ∧ (g.mode = s.mode ∧ g.width = s.width ∧ g.height = s.height) ∧ g.row.length = s.x.toNat ∧
      s.holdsRow g.row s.acc0 s.mode.romField0 ∧ (s.mode.romPlanes = 2 → s.holdsRow g.row s.acc1 s.mode.romField1) := by
  obtain ⟨g, rfl, hg⟩ := h.item1_frame hs
  obtain ⟨g', hg', hrow, h0, h1⟩ := h.item5 hs
  cases hg'
  exact ⟨g, rfl, hg, hrow, h0, h1⟩

/-! ## What the operations do to the history -/

/-- The operations that move the history on: ABORT, START, an accepted PIXEL and an accepted ROW_END. -/
inductive MovesHistory (s : State) : Instr → Prop where
  | abort (d : Word) (ha : d.getLsbD 1 = true) : MovesHistory s (.wrCtrl d)
  | start (d : Word) (ha : d.getLsbD 1 = false) (hs : d.getLsbD 0 = true) : MovesHistory s (.wrCtrl d)
  | pixel (d : Word) (c : Code) (hs : s.frame = .busy) (hy : s.y ≠ s.height) (hx : s.x ≠ s.width)
      (hc : s.classify (pixelKey d) = some c) : MovesHistory s (.wrPixel d)
  | row (d : Word) (hs : s.frame = .busy) (hy : s.y ≠ s.height) (hx : s.x = s.width) : MovesHistory s (.wrRowEnd d)

/-- Every other operation leaves the history as it was. -/
theorem FrameHistory.after_of_not_moves {i : Instr} {s : State} (h : ¬ MovesHistory s i) (f : Option FrameHistory) :
    FrameHistory.after i s f = f := by
  cases i with
  | wrCtrl d =>
    have ha : abortBit d = false := Bool.eq_false_iff.2 fun ha => h (.abort d ha)
    have hs : startBit d = false := Bool.eq_false_iff.2 fun hs => h (.start d ha hs)
    simp [FrameHistory.after, ha, hs]
  | wrPixel d =>
    cases hc : s.classify (pixelKey d) with
    | none => simp [FrameHistory.after, hc]
    | some c =>
      have hacc : ¬ (s.frame = .busy ∧ s.y ≠ s.height ∧ s.x ≠ s.width) := fun ⟨hs, hy, hx⟩ => h (.pixel d c hs hy hx hc)
      simp only [FrameHistory.after, if_neg hacc]
  | wrRowEnd d => exact if_neg fun ⟨hs, hy, hx⟩ => h (.row d hs hy hx)
  | _ => rfl

section HistoryAfter

variable {s : State} (f : Option FrameHistory)

/-- START does not look at the port or the read response. -/
theorem State.startFrame_accept (s : State) (rest : List PortEvent) :
    (s.accept rest).startFrame = s.startFrame.accept rest := by
  simp only [State.startFrame, apply_ite (State.accept · rest)]
  rfl

theorem FrameHistory.after_accept (i : Instr) (s : State) (rest : List PortEvent) :
    FrameHistory.after i (s.accept rest) f = FrameHistory.after i s f := by
  cases i with
  | wrCtrl d => simp [FrameHistory.after, State.startFrame_accept]
  | _ => rfl

theorem State.historyAfter_idle (hp : s.port = []) : s.historyAfter f = f := by simp [State.historyAfter, hp]

theorem State.historyAfter_reset {rest : List PortEvent} (hp : s.port = .reset :: rest) : s.historyAfter f = none := by
  simp [State.historyAfter, hp]

theorem State.historyAfter_reserved {T : TxnWord} {rest : List PortEvent} {r : ReservedAccess}
    (hp : s.port = .txn T :: rest) (hd : decode T = .error r) : s.historyAfter f = f := by
  simp [State.historyAfter, hp, hd]

theorem State.historyAfter_operation {T : TxnWord} {rest : List PortEvent} {i : Instr}
    (hp : s.port = .txn T :: rest) (hd : decode T = .ok i) :
    s.historyAfter f = FrameHistory.after i (s.accept rest) f := by
  simp [State.historyAfter, hp, hd, FrameHistory.after_accept]

end HistoryAfter

/-- What an operation that moves the history does: to the state and to the history at once. -/
theorem MovesHistory.next_cases {i : Instr} {s t : State} (h : MovesHistory s i) (ht : exec i s = .next t)
    (f : Option FrameHistory) :
    (t = s.abortFrame ∧ FrameHistory.after i s f = none) ∨
    (t = s.startFrame ∧
      FrameHistory.after i s f = if s.startFrame.frame = .busy then some ⟨s.mode, s.width, s.height, []⟩ else none) ∨
    (∃ c, s.frame = .busy ∧ s.x ≠ s.width ∧
      t = { s with x := s.x + 1, acc0 := s.nextAcc0 c, acc1 := s.nextAcc1 c, outbuf := s.outbufAfter c } ∧
      FrameHistory.after i s f = f.map fun g => { g with row := g.row ++ [c] }) ∨
    (s.frame = .busy ∧ t = s.endRow ∧ FrameHistory.after i s f = f.map fun g => { g with row := [] }) := by
  cases h with
  | abort d ha =>
    have ha : abortBit d = true := ha
    simp only [exec, execWrCtrl, ha, if_true] at ht
    cases ht
    exact .inl ⟨rfl, by simp [FrameHistory.after, ha]⟩
  | start d ha hs =>
    have ha : abortBit d = false := ha
    have hs : startBit d = true := hs
    simp only [exec, execWrCtrl, ha, hs, Bool.false_eq_true, if_false, if_true] at ht
    cases ht
    exact .inr (.inl ⟨rfl, by simp [FrameHistory.after, ha, hs]⟩)
  | pixel d c hs hy hx hc =>
    simp only [exec, execWrPixel, hs, hy, hx, hc, ne_eq, not_true_eq_false, if_false] at ht
    obtain ⟨_, rfl⟩ := State.acceptPixel_inv ht
    exact .inr (.inr (.inl ⟨c, hs, hx, rfl, by simp [FrameHistory.after, hs, hy, hx, hc]⟩))
  | row d hs hy hx =>
    simp only [exec, execWrRowEnd, hs, hy, hx, ne_eq, not_true_eq_false, if_false] at ht
    cases ht
    exact .inr (.inr (.inr ⟨hs, rfl, by simp [FrameHistory.after, hs, hy, hx]⟩))

/-! ## Every step keeps R50 -/

/-- R50 does not look at DROPPED, INTEN, the read response or the port. -/
theorem State.MeetsR50.with_unread {s : State} {f : Option FrameHistory} (h : s.MeetsR50 f) (d : Bool) (n : BitVec 2)
    (r : Option Word) (p : List PortEvent) :
    State.MeetsR50 { s with dropped := d, inten := n, rdata := r, port := p } f :=
  { h with }

theorem State.MeetsR50.accept {s : State} {f : Option FrameHistory} (h : s.MeetsR50 f) (rest : List PortEvent) :
    (s.accept rest).MeetsR50 f :=
  h.with_unread _ _ _ rest

/-- An accepted FRAME_END: the frame's height is reached, and OUT_LEN is the frame's length (R195). -/
theorem State.MeetsR50.finish {s : State} {f : Option FrameHistory} (h : s.MeetsR50 f) (hi : s.Inv)
    (hs : s.frame = .busy) (hy : s.y = s.height) : (s.setFrame .done).MeetsR50 f := by
  obtain ⟨⟨_, _, hend⟩, ⟨_, _, hcap⟩, hlen⟩ := h.item1 hs
  obtain ⟨g, rfl, hm, hw, hh⟩ := h.item1_frame hs
  have hbytes : g.bytes = s.frameBytes := by rw [FrameHistory.bytes, hm, hw, hh]; rfl
  have hinv := hi.finish hs hy
  exact { h with
    item1 := nofun
    item1_frame := nofun
    item2 := fun _ => ⟨g, rfl, hy.trans hh.symm, hend hy, hlen.trans hbytes.symm, hbytes.trans_le hcap⟩
    item3 := hinv.no_result
    item4 := hinv.error_kind
    item5 := nofun }

/-- Every effect that leaves the history as it was keeps R50 over it. -/
theorem Effect.keeps_r50 {i : Instr} {s t : State} {f : Option FrameHistory} (e : Effect i s t)
    (hmove : ¬ MovesHistory s i) (hi : s.Inv) (h : s.MeetsR50 f) : t.MeetsR50 f := by
  cases e with
  | nothing => exact h
  | responds v => exact h.with_unread s.dropped s.inten (some v) s.port
  | drops _ => exact h.with_unread true s.inten s.rdata s.port
  | enables v => exact h.with_unread s.dropped v s.rdata s.port
  | configures _ hs m w ht p l pal =>
    exact { h with
      item1 := fun hb => absurd hb hs
      item1_frame := fun hb => absurd hb hs
      item5 := fun hb => absurd hb hs }
  | fails _ hs k d rgb hk hd hr =>
    exact .of_no_output (hi.raiseError hk hd hr s.x s.y) (by simp) (by simp) h.item6 h.item6_no_frame
  | endsFrame _ _ hs hy => exact h.finish hi hs hy
  | aborts d e ha => exact absurd (e ▸ .abort d ha) hmove
  | starts d e ha hs => exact absurd (e ▸ .start d ha hs) hmove
  | packs d c e hs hy hx hc => exact absurd (e ▸ .pixel d c hs hy hx hc) hmove
  | endsRow d e hs hy hx => exact absurd (e ▸ .row d hs hy hx) hmove

/-- START, over the history it begins or leaves (R131). -/
theorem State.Inv.start_meetsR50 {s : State} (hi : s.Inv) :
    s.startFrame.MeetsR50 (if s.startFrame.frame = .busy then some ⟨s.mode, s.width, s.height, []⟩ else none) := by
  rcases s.startFrame_refuses_or_opens with ⟨_, k, e, hk, he, eq⟩ | ⟨ha, eq⟩
  · rw [eq]
    exact .of_no_output (hi.abort.raiseError hk he (fun _ => rfl) 0 0) (by simp) (by simp) nofun fun _ => rfl
  · rw [eq]
    exact .of_busy (.opened ha) rfl ⟨rfl, rfl, rfl⟩ rfl (State.holdsRow_nil rfl _) (fun _ => State.holdsRow_nil rfl _)
      fun _ => rfl

/-- An operation that moves the history keeps R50 over the history after it. -/
theorem MovesHistory.keeps_r50 {i : Instr} {s t : State} {f : Option FrameHistory} (hmove : MovesHistory s i)
    (ht : exec i s = .next t) (hi : s.Inv) (h : s.MeetsR50 f) : t.MeetsR50 (FrameHistory.after i s f) := by
  have hinv : t.Inv := (exec_effect ht).keeps_inv hi
  rcases hmove.next_cases ht f with ⟨rfl, e⟩ | ⟨rfl, e⟩ | ⟨c, hs, hx, rfl, e⟩ | ⟨hs, rfl, e⟩
  · rw [e]
    exact .of_no_output hinv (by simp) (by simp) nofun fun _ => rfl
  · rw [e]
    exact hi.start_meetsR50
  · obtain ⟨g, rfl, hg, hrow, h0, h1⟩ := h.busy_history hs
    have hnext : (s.x + 1).toNat = s.x.toNat + 1 := Dim.toNat_add_one (hi.x_lt_width hs hx)
    have hlen : (g.row ++ [c]).length = (s.x + 1).toNat := by
      rw [List.length_append, List.length_singleton, hrow, hnext]
    rw [e]
    refine .of_busy hinv hs hg hlen (h0.snoc hnext c ..) (fun hp => ?_) fun hm => ?_
    · have hacc : s.nextAcc1 c = shiftIn s.acc1 s.mode.romFb (s.mode.romField1 c) := if_pos hp
      exact hacc ▸ (h1 hp).snoc hnext c ..
    · obtain ⟨hmode, _, _⟩ := hg
      exact s.nextAcc1_eq_zero (Mode.romPlanes_of_ne_rwb (hmode ▸ hm)) (h.item6 g rfl hm) c
  · obtain ⟨g, rfl, hg, _⟩ := h.busy_history hs
    rw [e]
    exact .of_busy hinv hs hg rfl (State.holdsRow_nil rfl _) (fun _ => State.holdsRow_nil rfl _) fun _ => rfl

theorem exec_keeps_r50 {i : Instr} {s t : State} {f : Option FrameHistory} (ht : exec i s = .next t) (hi : s.Inv)
    (h : s.MeetsR50 f) : t.MeetsR50 (FrameHistory.after i s f) := by
  by_cases hmove : MovesHistory s i
  · exact hmove.keeps_r50 ht hi h
  · rw [FrameHistory.after_of_not_moves hmove]
    exact (exec_effect ht).keeps_r50 hmove hi h

theorem State.MeetsR50.atReset (cap : Capacity) (draw : Nat) (p : List PortEvent) :
    State.MeetsR50 { State.atReset cap draw with port := p } none :=
  .of_no_output (.atReset cap draw p) nofun nofun nofun fun _ => rfl

/-- Settles O51: an idle step, a reset event, an operation with its effect on the history, or a reserved access. -/
theorem everyStepKeepsR50 : Obligations.EveryStepKeepsR50 := by
  intro s t f hi h hstep
  rcases step_cases hstep with ⟨hp, rfl⟩ | ⟨rest, hp, rfl⟩ | ⟨T, rest, i, hp, hd, he⟩ | ⟨T, rest, r, hp, hd, rfl⟩
  · rwa [State.historyAfter_idle f hp]
  · rw [State.historyAfter_reset f hp]
    exact .atReset s.outbufBytes s.draws rest
  · rw [State.historyAfter_operation f hp hd]
    exact exec_keeps_r50 he (hi.accept rest) (h.accept rest)
  · rw [State.historyAfter_reserved f hp hd]
    exact (Effect.of_reserved .rdStatus r).keeps_r50 nofun (hi.accept rest) (h.accept rest)

/-- Settles O50. -/
theorem resetMeetsR50 : Obligations.ResetMeetsR50 := .atReset Config.outbufBytes 0 []

/-- A run keeps the invariant and R50, over the history of the run. -/
theorem run_keeps_r50 {k : Nat} {s t : State} {f : Option FrameHistory} (hi : s.Inv) (h : s.MeetsR50 f)
    (hrun : Host.Core.run Sys2Proof.core k s = .next t) : t.Inv ∧ t.MeetsR50 (historyRun k s f) := by
  induction k generalizing s f with
  | zero =>
    cases hrun
    exact ⟨hi, h⟩
  | succ k ih =>
    obtain ⟨u, hstep, hrun⟩ := run_cases hrun
    simpa [historyRun, hstep] using
      ih (everyStepKeepsInvariant s u hi hstep) (everyStepKeepsR50 s u f hi h hstep) hrun

/-- Settles O52: the run starts where R50 holds with no frame begun, and every step keeps it. -/
theorem reachableStatesMeetR50 : Obligations.ReachableStatesMeetR50 := by
  intro cap events k t hrun
  obtain ⟨_, h⟩ := run_keeps_r50 (.atReset cap 0 events) (.atReset cap 0 events) hrun
  exact h

/-! ## R50 items 2 and 6 over the registers as they stand -/

/-- Where the registers are the frame's, R50 over the frame says items 2 and 6 word for word. -/
theorem State.MeetsR50.asWorded {t : State} {f : Option FrameHistory} (h : t.MeetsR50 f)
    (hreg : ∀ g, f = some g → t.mode = g.mode ∧ t.width = g.width ∧ t.height = g.height) : t.AsWorded where
  done_shape := fun hd => by
    obtain ⟨g, rfl, hy, hx, hlen, hcap⟩ := h.item2 hd
    obtain ⟨hm, hw, hh⟩ := hreg g rfl
    have hbytes : g.bytes = t.frameBytes := by rw [FrameHistory.bytes, ← hm, ← hw, ← hh]; rfl
    exact ⟨hy.trans hh.symm, hx, hlen.trans hbytes, hbytes ▸ hcap⟩
  one_plane := fun hne => by
    cases f with
    | none => exact h.item6_no_frame rfl
    | some g =>
      obtain ⟨hm, _, _⟩ := hreg g rfl
      exact h.item6 g rfl (hm ▸ hne)

/-- Settles O54: R50 over the frame holds after the run, and its registers are the frame's. -/
theorem unchangedRegistersMeetWordedItems : Obligations.UnchangedRegistersMeetWordedItems := by
  intro cap events k t hrun hreg
  exact (reachableStatesMeetR50 cap events k t hrun).asWorded hreg

end Sys2Proof.Machine
end

section
/-! PROOFS, 10_state.md: R50 over the registers as they stand (log entry 10), reset values (R49), what may change STATE, the
configuration, OUTBUF and the capacity, and the position counters (R22). -/

namespace Sys2Proof.Machine

/-! ## R50 items 2 and 6 over the registers: what keeps them -/

/-- Outside DONE and with ACC1 = 0 both items hold. -/
theorem State.AsWorded.of_acc1_zero {s : State} (hs : s.frame ≠ .done) (h : s.acc1 = 0) : s.AsWorded :=
  ⟨fun hd => absurd hd hs, fun _ => h⟩

/-- The two items do not look at DROPPED, INTEN, the read response or the port. -/
theorem State.AsWorded.with_unread {s : State} (h : s.AsWorded) (d : Bool) (n : BitVec 2) (r : Option Word)
    (p : List PortEvent) : State.AsWorded { s with dropped := d, inten := n, rdata := r, port := p } :=
  { h with }

theorem State.AsWorded.accept {s : State} (h : s.AsWorded) (rest : List PortEvent) : (s.accept rest).AsWorded :=
  h.with_unread _ _ _ rest

theorem State.AsWorded.atReset (cap : Capacity) (draw : Nat) (p : List PortEvent) :
    State.AsWorded { State.atReset cap draw with port := p } :=
  .of_acc1_zero nofun rfl

/-- START ends in BUSY where its checks pass and in ERROR where one fails. -/
theorem State.startFrame_frame (s : State) :
    (s.acceptsFrame ∧ s.startFrame.frame = .busy) ∨ (¬ s.acceptsFrame ∧ s.startFrame.frame = .error) := by
  rcases s.startFrame_refuses_or_opens with ⟨hn, k, e, _, _, eq⟩ | ⟨ha, eq⟩
  · exact .inr ⟨hn, eq ▸ rfl⟩
  · exact .inl ⟨ha, eq ▸ rfl⟩

theorem State.startFrame_acc1 (s : State) : s.startFrame.acc1 = 0 := by
  rcases s.startFrame_refuses_or_opens with ⟨_, k, e, _, _, eq⟩ | ⟨_, eq⟩ <;> rw [eq] <;> rfl

/-- An operation that writes no configuration register keeps both items. -/
theorem Effect.keeps_asWorded {i : Instr} {s t : State} (e : Effect i s t) (hc : i.isConfigWrite = false) (hi : s.Inv)
    (h : s.AsWorded) : t.AsWorded := by
  cases e with
  | nothing => exact h
  | responds v => exact h.with_unread s.dropped s.inten (some v) s.port
  | drops _ => exact h.with_unread true s.inten s.rdata s.port
  | enables v => exact h.with_unread s.dropped v s.rdata s.port
  | configures hw => cases hc.symm.trans hw
  | aborts _ _ _ => exact .of_acc1_zero nofun rfl
  | starts _ _ _ _ =>
    refine .of_acc1_zero (fun hd => ?_) s.startFrame_acc1
    rcases s.startFrame_frame with ⟨_, hf⟩ | ⟨_, hf⟩ <;> cases hf.symm.trans hd
  | fails _ _ _ _ _ _ _ _ => exact ⟨nofun, h.one_plane⟩
  | packs _ c _ hs _ _ _ _ =>
    exact ⟨fun hd => (by cases hs.symm.trans hd), fun hm =>
      s.nextAcc1_eq_zero (Mode.romPlanes_of_ne_rwb hm) (h.one_plane hm) c⟩
  | endsRow _ _ hs _ _ => exact .of_acc1_zero (fun hd => by cases hs.symm.trans hd) rfl
  | endsFrame _ _ hs hy =>
    obtain ⟨_, _, hend⟩ := hi.busy_position hs
    obtain ⟨_, _, hcap⟩ := hi.busy_accepts hs
    exact ⟨fun _ => ⟨hy, hend hy, hi.busy_length hs, hcap⟩, h.one_plane⟩

/-- The configuration writes of log entry 10: WR_MODE, WR_WIDTH and WR_HEIGHT in DONE, and WR_MODE in ERROR. -/
def RewritesFrame (s : State) (i : Instr) : Prop :=
  ∃ d, (s.frame = .done ∧ (i = .wrMode d ∨ i = .wrWidth d ∨ i = .wrHeight d)) ∨ (s.frame = .error ∧ i = .wrMode d)

/-- A gated write keeps what its effect keeps outside BUSY (R136). -/
theorem State.AsWorded.cfgWrite {s : State} (h : s.AsWorded) {f : State → State} (hf : s.frame ≠ .busy → (f s).AsWorded) :
    (s.cfgWrite f).AsWorded := by
  by_cases hs : s.frame = .busy
  · rw [State.cfgWrite_busy hs]
    exact h.with_unread true s.inten s.rdata s.port
  · rw [State.cfgWrite_open hs]
    exact hf hs

theorem State.frame_eq_idle_of_ne {s : State} (hb : s.frame ≠ .busy) (hd : s.frame ≠ .done) (he : s.frame ≠ .error) :
    s.frame = .idle := by
  cases hf : s.frame with
  | idle => rfl
  | busy => exact absurd hf hb
  | done => exact absurd hf hd
  | error => exact absurd hf he

/-- An operation keeps both items but for the writes of log entry 10. -/
theorem exec_keeps_asWorded {i : Instr} {s t : State} (he : exec i s = .next t) (hi : s.Inv) (h : s.AsWorded)
    (hr : ¬ RewritesFrame s i) : t.AsWorded := by
  cases i with
  | wrMode d =>
    cases he
    refine h.cfgWrite fun hb => ?_
    have hd : s.frame ≠ .done := fun hd => hr ⟨d, .inl ⟨hd, .inl rfl⟩⟩
    have hidle : s.frame = .idle := State.frame_eq_idle_of_ne hb hd fun he => hr ⟨d, .inr ⟨he, rfl⟩⟩
    obtain ⟨_, _, _, hacc⟩ := hi.idle_position hidle
    rcases s.writeMode_cases d with ⟨_, eq⟩ | ⟨m, _, eq⟩
    · rwa [eq]
    · rw [eq]
      exact .of_acc1_zero hd hacc
  | wrWidth d =>
    cases he
    exact h.cfgWrite fun _ => ⟨fun hd => absurd ⟨d, .inl ⟨hd, .inr (.inl rfl)⟩⟩ hr, h.one_plane⟩
  | wrHeight d =>
    cases he
    exact h.cfgWrite fun _ => ⟨fun hd => absurd ⟨d, .inl ⟨hd, .inr (.inr rfl)⟩⟩ hr, h.one_plane⟩
  | wrPlanes d | wrPalLen d | wrPal n d =>
    cases he
    exact h.cfgWrite fun _ => { h with }
  | _ => exact (exec_effect he).keeps_asWorded rfl hi h

/-- Settles O49: an operation keeps both items, or it is one of the writes named. -/
theorem wordedItemsKeptButForConfiguration : Obligations.WordedItemsKeptButForConfiguration := by
  intro s t hi h hstep
  rcases step_cases hstep with ⟨_, rfl⟩ | ⟨rest, _, rfl⟩ | ⟨T, rest, i, hp, hd, he⟩ | ⟨_, rest, r, _, _, rfl⟩
  · exact .inl h
  · exact .inl (.atReset s.outbufBytes s.draws rest)
  · by_cases hr : RewritesFrame (s.accept rest) i
    · obtain ⟨d, ⟨hs, rfl | rfl | rfl⟩ | ⟨hs, rfl⟩⟩ := hr
      · exact .inr ⟨T, rest, d, hp, .inl ⟨hs, .inl hd⟩⟩
      · exact .inr ⟨T, rest, d, hp, .inl ⟨hs, .inr (.inl hd)⟩⟩
      · exact .inr ⟨T, rest, d, hp, .inl ⟨hs, .inr (.inr hd)⟩⟩
      · exact .inr ⟨T, rest, d, hp, .inr ⟨hs, hd⟩⟩
    · exact .inl (exec_keeps_asWorded he (hi.accept rest) (h.accept rest) hr)
  · exact .inl ((Effect.of_reserved .rdStatus r).keeps_asWorded rfl (hi.accept rest) (h.accept rest))

/-- Settles O48. -/
theorem wordedItemsHoldAtReset : Obligations.WordedItemsHoldAtReset := .atReset Config.outbufBytes 0 []

/-! ## The two sentences that fail over the registers as they stand (log entry 10) -/

/-- A 7C frame of no rows, started and ended, and then HEIGHT written in DONE (R139). -/
def heightWrittenInDone : List PortEvent :=
  [.txn (encode (.wrPalLen 7)), .txn (encode (.wrCtrl 1)), .txn (encode (.wrFrameEnd 0)), .txn (encode (.wrHeight 2))]

/-- Refutes O17: after `heightWrittenInDone` STATE = DONE with Y = 0 and HEIGHT = 2. -/
theorem not_doneCountsHeightRows : ¬ Obligations.DoneCountsHeightRows := by
  intro h
  obtain ⟨t, hrun, hdone, hy, hheight⟩ : ∃ t : State,
      Host.Core.run Sys2Proof.core 4 { State.atReset 0 0 with port := heightWrittenInDone } = .next t ∧
        t.frame = .done ∧ t.y = 0 ∧ t.height = 2 := ⟨_, rfl, rfl, rfl, rfl⟩
  have heq := h 0 heightWrittenInDone 4 t hrun hdone
  rw [hy, hheight] at heq
  exact absurd heq (by decide)

/-- An RWB frame of 8×1 whose first pixel is of code 2, so that ACC1 takes a 1; its row then ends too early, and MODE is written
in ERROR (R215, R137). All palette entries are still 0, and the highest of the three matches the pixel (R116). -/
def modeWrittenAfterRwbError : List PortEvent :=
  [.txn (encode (.wrMode 1)), .txn (encode (.wrPalLen 3)), .txn (encode (.wrWidth 8)), .txn (encode (.wrHeight 1)),
   .txn (encode (.wrCtrl 1)), .txn (encode (.wrPixel 0)), .txn (encode (.wrRowEnd 0)), .txn (encode (.wrMode 0))]

/-- Refutes O16: after `modeWrittenAfterRwbError` MODE = 7C with ACC1 = 1. -/
theorem not_secondAccumulatorZeroOutsideRwb : ¬ Obligations.SecondAccumulatorZeroOutsideRwb := by
  intro h
  obtain ⟨t, hrun, hmode, hacc⟩ : ∃ t : State,
      Host.Core.run Sys2Proof.core 8 { State.atReset 2 0 with port := modeWrittenAfterRwbError } = .next t ∧
        t.mode = .sevenColour ∧ t.acc1 = 1 := ⟨_, rfl, rfl, rfl⟩
  have h0 := h 2 modeWrittenAfterRwbError 8 t hrun (by rw [hmode]; decide)
  rw [hacc] at h0
  exact absurd h0 (by decide)

/-! ## Reset values (R49) -/

theorem State.atReset_palEntry (cap : Capacity) (draw : Nat) (n : Code) : (State.atReset cap draw).palEntry n = 0 := by
  simp [State.palEntry, State.atReset]

/-- Settles O9: at power-on and after a reset event the state is `State.atReset`, but for the port. -/
theorem resetValues : Obligations.ResetValues := by
  intro t ht
  obtain ⟨cap, draw, p, rfl⟩ : ∃ cap draw p, t = { State.atReset cap draw with port := p } := by
    rcases ht with rfl | ⟨s, rest, hp, hstep⟩
    · exact ⟨Config.outbufBytes, 0, [], rfl⟩
    · cases (step_event hp).symm.trans hstep
      exact ⟨s.outbufBytes, s.draws, rest, rfl⟩
  exact ⟨rfl, rfl, rfl, rfl, rfl, rfl, rfl, rfl, rfl, State.atReset_palEntry cap draw,
    rfl, rfl, rfl, rfl, rfl, rfl, rfl, rfl, rfl, rfl⟩

/-! ## The capacity (R37, R156) -/

theorem State.startFrame_outbufBytes (s : State) : s.startFrame.outbufBytes = s.outbufBytes := by
  rcases s.startFrame_refuses_or_opens with ⟨_, k, e, _, _, eq⟩ | ⟨_, eq⟩ <;> rw [eq] <;> rfl

theorem Effect.outbufBytes {i : Instr} {s t : State} (e : Effect i s t) : t.outbufBytes = s.outbufBytes := by
  cases e with
  | starts => exact s.startFrame_outbufBytes
  | _ => rfl

theorem step_outbufBytes {s t : State} (h : step s = .next t) : t.outbufBytes = s.outbufBytes := by
  rcases step_cases h with ⟨_, rfl⟩ | ⟨_, _, rfl⟩ | ⟨_, rest, _, _, _, he⟩ | ⟨_, rest, r, _, _, rfl⟩
  · rfl
  · rfl
  · exact (exec_effect he).outbufBytes
  · exact (Effect.of_reserved .rdStatus r).outbufBytes (s := s.accept rest)

/-- A word whose [31:0] are 0 and whose other fields are a register's, with any DATA, is that register's operation. -/
theorem decode_reg_word {p : TxnWord} {r : Reg} {we : Bool} (hp : Txn.ofWord p = ⟨false, we, r.offset.setWidth 30, 0⟩)
    (d : Word) : decode (p ||| d.setWidth 64) = .ok (r.operation we d) := by
  have hdata : p.extractLsb' 0 32 = 0 := congrArg Txn.data hp
  rw [decode, Txn.ofWord_or_data p d hdata, hp]
  exact Txn.decode_reg r we d

/-- Settles O31: the response is the parameter, which fits 32 bits, and no step writes it. -/
theorem capacityIsReadAndConstant : Obligations.CapacityIsReadAndConstant := by
  refine ⟨decode_reg_word (r := .caps) (we := false) (by decide), fun s => ⟨_, rfl, ?_⟩, fun s t h => step_outbufBytes h⟩
  have := s.outbufBytes.isLt
  exact BitVec.toNat_ofNat .. |>.trans (Nat.mod_eq_of_lt (by omega))

/-! ## What changes STATE (R42) -/

/-- A change of STATE by an operation is a line of the transition table. -/
theorem Effect.frame_cases {i : Instr} {s t : State} (e : Effect i s t) (h : t.frame ≠ s.frame) :
    (∃ d : Word, i = .wrCtrl d ∧ d.getLsbD 1 = true ∧ t.frame = .idle) ∨
    (∃ d : Word, i = .wrCtrl d ∧ d.getLsbD 1 = false ∧ d.getLsbD 0 = true ∧
      ((s.acceptsFrame ∧ t.frame = .busy) ∨ (¬ s.acceptsFrame ∧ t.frame = .error))) ∨
    (∃ d : Word, i = .wrFrameEnd d ∧ s.frame = .busy ∧ s.y = s.height ∧ t.frame = .done) ∨
    (i.isStream = true ∧ s.frame = .busy ∧ t.frame = .error ∧ t.errKind ≠ .none) := by
  cases e with
  | aborts d hi ha => exact .inl ⟨d, hi, ha, rfl⟩
  | starts d hi ha hs => exact .inr (.inl ⟨d, hi, ha, hs, s.startFrame_frame⟩)
  | endsFrame d hi hs hy => exact .inr (.inr (.inl ⟨d, hi, hs, hy, rfl⟩))
  | fails hi hs k e rgb hk => exact .inr (.inr (.inr ⟨hi, hs, rfl, hk⟩))
  | _ => exact absurd rfl h

theorem State.reservedAccess_frame (s : State) (r : ReservedAccess) : (s.reservedAccess r).frame = s.frame := by
  unfold State.reservedAccess
  split_ifs <;> rfl

/-- A step that takes the word of an operation performs the operation on the accepted state. -/
theorem exec_of_step {s t : State} {T : TxnWord} {rest : List PortEvent} {i : Instr} (hp : s.port = .txn T :: rest)
    (hd : decode T = .ok i) (h : step s = .next t) : exec i (s.accept rest) = .next t :=
  (stepRunsDecodedInstruction s T rest i hp hd).symm.trans h

theorem exec_abort {d : Word} (ha : d.getLsbD 1 = true) (s : State) : exec (.wrCtrl d) s = .next s.abortFrame :=
  if_pos ha

theorem exec_start {d : Word} (ha : d.getLsbD 1 = false) (hs : d.getLsbD 0 = true) (s : State) :
    exec (.wrCtrl d) s = .next s.startFrame :=
  (if_neg (Bool.eq_false_iff.1 ha)).trans (if_pos hs)

theorem exec_frameEnd_accepted {s : State} (hs : s.frame = .busy) (hy : s.y = s.height) (d : Word) :
    exec (.wrFrameEnd d) s = .next (s.setFrame .done) :=
  (if_neg (not_not.2 hs)).trans (if_neg (not_not.2 hy))

/-- Settles O42: each line by the operation it names, the converse by the effects of an operation. -/
theorem onlyListedEventsChangeState : Obligations.OnlyListedEventsChangeState := by
  refine ⟨fun s t rest hp h => ?_, fun s t T rest d hp hd h => ⟨fun ha => ?_, fun ha hs => ?_⟩,
    fun s t T rest d hp hd h hs hy => ?_, fun s t h hne => ?_⟩
  · cases (step_event hp).symm.trans h
    rfl
  · cases (exec_abort ha _).symm.trans (exec_of_step hp hd h)
    rfl
  · cases (exec_start ha hs _).symm.trans (exec_of_step hp hd h)
    rcases (s.accept rest).startFrame_frame with ⟨hacc, hf⟩ | ⟨hacc, hf⟩
    · exact ⟨fun _ => hf, fun hn => absurd hacc hn⟩
    · exact ⟨fun ha => absurd ha hacc, fun _ => hf⟩
  · cases (exec_frameEnd_accepted (s := s.accept rest) hs hy d).symm.trans (exec_of_step hp hd h)
    rfl
  · rcases step_cases h with ⟨_, rfl⟩ | ⟨rest, hp, rfl⟩ | ⟨T, rest, i, hp, hd, he⟩ | ⟨_, rest, r, _, _, rfl⟩
    · exact absurd rfl hne
    · exact .inl ⟨rest, hp, rfl⟩
    · exact .inr ⟨T, rest, i, hp, hd, (exec_effect he).frame_cases hne⟩
    · exact absurd ((s.accept rest).reservedAccess_frame r) hne

/-! ## The configuration while a frame runs (R48, R82) -/

/-- The configuration registers of `t` are those of `s`. -/
def State.SameConfig (s t : State) : Prop :=
  t.mode = s.mode ∧ t.width = s.width ∧ t.height = s.height ∧ t.planes = s.planes ∧ t.palLen = s.palLen ∧ t.pal = s.pal

theorem State.SameConfig.refl (s : State) : s.SameConfig s := ⟨rfl, rfl, rfl, rfl, rfl, rfl⟩

theorem State.startFrame_sameConfig (s : State) : s.SameConfig s.startFrame := by
  rcases s.startFrame_refuses_or_opens with ⟨_, k, e, _, _, eq⟩ | ⟨_, eq⟩ <;> rw [eq] <;> exact .refl s

/-- In BUSY a configuration write is dropped, and nothing else writes a configuration register. -/
theorem Effect.sameConfig_of_busy {i : Instr} {s t : State} (e : Effect i s t) (hs : s.frame = .busy) :
    s.SameConfig t := by
  cases e with
  | configures _ hn => exact absurd hs hn
  | starts => exact s.startFrame_sameConfig
  | _ => exact .refl s

/-- Settles O43: a transaction word is an operation or a reserved access. -/
theorem configurationFixedInBusy : Obligations.ConfigurationFixedInBusy := by
  intro s t T rest hs hp h
  have hperf : perform T (s.accept rest) = .next t := (step_event hp).symm.trans h
  cases hd : decode T with
  | ok i =>
    rw [perform_ok hd] at hperf
    exact (exec_effect hperf).sameConfig_of_busy hs
  | error r =>
    cases (perform_error hd _).symm.trans hperf
    exact (Effect.of_reserved .rdStatus r).sameConfig_of_busy (s := s.accept rest) hs

/-! ## What stores to OUTBUF (R46, R185) -/

/-- START stores to OUTBUF only where it opens the frame (R131). -/
theorem State.startFrame_outbuf_of_refused {s : State} (h : ¬ s.acceptsFrame) : s.startFrame.outbuf = s.outbuf := by
  rcases s.startFrame_refuses_or_opens with ⟨_, k, e, _, _, eq⟩ | ⟨ha, _⟩
  · rw [eq]; rfl
  · exact absurd ha h

/-- An accepted pixel changes the bytes it completes and no other. -/
theorem State.outbufAfter_changed {s : State} {c : Code} {a : Nat} (h : (s.outbufAfter c).read a ≠ s.outbuf.read a) :
    s.completesByte = true ∧ (a = s.byteIndex ∨ (s.mode.romPlanes = 2 ∧ a = s.planeBytes + s.byteIndex)) := by
  rw [State.outbufAfter_read] at h
  split_ifs at h with h1 h0
  · obtain ⟨hc, hp, ha⟩ := h1
    exact ⟨hc, .inr ⟨hp, ha⟩⟩
  · obtain ⟨hc, ha⟩ := h0
    exact ⟨hc, .inl ha⟩
  · exact absurd rfl h

/-- A byte changed by an operation is cleared by a START or stored by the writer. -/
theorem Effect.outbuf_cases {i : Instr} {s t : State} {a : Nat} (e : Effect i s t)
    (h : t.outbuf.read a ≠ s.outbuf.read a) :
    (∃ d : Word, i = .wrCtrl d ∧ d.getLsbD 1 = false ∧ d.getLsbD 0 = true ∧ s.acceptsFrame ∧ t.frame = .busy) ∨
    (∃ d : Word, i = .wrPixel d ∧ s.frame = .busy ∧ s.x.toNat % s.mode.romPack = s.mode.romPack - 1 ∧
      (a = s.byteIndex ∨ (s.mode.romPlanes = 2 ∧ a = s.planeBytes + s.byteIndex))) := by
  cases e with
  | starts d hi ha hs =>
    rcases s.startFrame_frame with ⟨hacc, hf⟩ | ⟨hacc, _⟩
    · exact .inl ⟨d, hi, ha, hs, hacc, hf⟩
    · exact absurd (congrArg (Memory.read · a) (State.startFrame_outbuf_of_refused hacc)) h
  | packs d c hi hs =>
    obtain ⟨hc, haddr⟩ := State.outbufAfter_changed h
    exact .inr ⟨d, hi, hs, by simpa [State.completesByte] using hc, haddr⟩
  | _ => exact absurd rfl h

theorem State.reservedAccess_outbuf (s : State) (r : ReservedAccess) : (s.reservedAccess r).outbuf = s.outbuf := by
  unfold State.reservedAccess
  split_ifs <;> rfl

/-- Settles O45: a step that changes a byte took a reset, or an operation that changed it. -/
theorem onlyWriterStoresOutput : Obligations.OnlyWriterStoresOutput := by
  intro s t a h hne
  rcases step_cases h with ⟨_, rfl⟩ | ⟨rest, hp, _⟩ | ⟨T, rest, i, hp, hd, he⟩ | ⟨_, rest, r, _, _, rfl⟩
  · exact absurd rfl hne
  · exact .inl ⟨rest, hp⟩
  · exact .inr ⟨T, rest, i, hp, hd, (exec_effect he).outbuf_cases hne⟩
  · exact absurd (congrArg (Memory.read · a) ((s.accept rest).reservedAccess_outbuf r)) hne

/-! ## The position counters (R22, R43) -/

/-- A PIXEL that leaves the block in BUSY passed its checks: every failed check enters ERROR (R214). -/
theorem exec_wrPixel_busy {d : Word} {s t : State} (h : exec (.wrPixel d) s = .next t) (hs : s.frame = .busy)
    (ht : t.frame = .busy) : s.x ≠ s.width ∧ t.x = s.x + 1 ∧ t.y = s.y := by
  simp only [exec, execWrPixel, hs, ne_eq, not_true_eq_false, if_false] at h
  split_ifs at h with hy hx
  · cases h; cases ht
  · cases h; cases ht
  · cases hc : s.classify (pixelKey d) with
    | none => rw [hc] at h; cases h; cases ht
    | some c =>
      rw [hc] at h
      obtain ⟨_, rfl⟩ := State.acceptPixel_inv h
      exact ⟨hx, rfl, rfl⟩

/-- A ROW_END that leaves the block in BUSY passed its checks (R214). -/
theorem exec_wrRowEnd_busy {d : Word} {s t : State} (h : exec (.wrRowEnd d) s = .next t) (hs : s.frame = .busy)
    (ht : t.frame = .busy) : s.y ≠ s.height ∧ t.y = s.y + 1 ∧ t.x = 0 := by
  simp only [exec, execWrRowEnd, hs, ne_eq, not_true_eq_false, if_false] at h
  split_ifs at h with hy hx
  · cases h; cases ht
  · cases h
    exact ⟨hy, rfl, rfl⟩
  · cases h; cases ht

/-- Settles O15: what stays in BUSY was accepted, below the bound of its counter. -/
theorem positionNeverWraps : Obligations.PositionNeverWraps := by
  intro s t hi hs ht
  refine ⟨fun d h => ?_, fun d h => ?_⟩
  · obtain ⟨hx, hx', hy'⟩ := exec_wrPixel_busy h hs ht
    exact ⟨hx' ▸ Dim.toNat_add_one (hi.x_lt_width hs hx), hy'⟩
  · obtain ⟨hy, hy', hx'⟩ := exec_wrRowEnd_busy h hs ht
    exact ⟨hy' ▸ Dim.toNat_add_one (hi.y_lt_height hs hy), hx'⟩

end Sys2Proof.Machine
end

section
/-! PROOFS, 20_memory.md: the bytes a running frame has not finalised (R84), and reads (R76). -/

namespace Sys2Proof.Machine

/-! ## The byte index as the position advances (R185) -/

/-- In an image of whole bytes per row, advancing X moves to the next byte exactly where the pixel completed one. -/
theorem State.advanceX_byteIndex {s : State} (hx : s.x.toNat < s.width.toNat)
    (hw : s.width.toNat % s.mode.romPack = 0) :
    s.advanceX.byteIndex = if s.completesByte = true then s.byteIndex + 1 else s.byteIndex := by
  have hnext : (s.x + 1).toNat = s.x.toNat + 1 := Dim.toNat_add_one hx
  have hrow : s.mode.romPack ∣ s.y.toNat * s.width.toNat := (Nat.dvd_of_mod_eq_zero hw).mul_left _
  have hlast : s.mode.romPack ∣ s.y.toNat * s.width.toNat + s.x.toNat + 1 ↔ s.completesByte = true := by
    rw [Nat.add_assoc, Nat.dvd_add_right hrow, Nat.dvd_iff_mod_eq_zero, State.completesByte, beq_iff_eq]
    obtain ⟨k, hk⟩ := Nat.exists_eq_add_one.2 s.mode.romPack_pos
    rw [hk]
    exact Nat.succ_mod_succ_eq_zero_iff
  calc s.advanceX.byteIndex
      = (s.y.toNat * s.width.toNat + s.x.toNat + 1) / s.mode.romPack := by
        rw [State.byteIndex, State.advanceX_x, hnext, Nat.add_assoc]; rfl
    _ = s.byteIndex + if s.completesByte = true then 1 else 0 := by
        rw [Nat.succ_div, State.byteIndex]; simp only [hlast]
    _ = _ := by split_ifs <;> rfl

/-- The start of a row is the byte after the last of the row before. -/
theorem State.endRow_byteIndex {s : State} (hy : s.y.toNat < s.height.toNat) (hx : s.x = s.width) :
    s.endRow.byteIndex = s.byteIndex := by
  have hnext : (s.y + 1).toNat = s.y.toNat + 1 := Dim.toNat_add_one hy
  rw [State.byteIndex, State.byteIndex, State.endRow_y, hnext, hx, ← Nat.add_one_mul]
  rfl

/-! ## The bytes not finalised yet (R84) -/

/-- Above the current byte index an accepted pixel stores nothing, in either plane. -/
theorem State.outbufAfter_read_of_byteIndex_lt {s : State} {p j : Nat} (hp : p < s.mode.romPlanes)
    (hj : s.byteIndex < j) (hlt : j < s.planeBytes) (c : Code) :
    (s.outbufAfter c).read (p * s.planeBytes + j) = s.outbuf.read (p * s.planeBytes + j) := by
  by_contra hne
  rcases State.outbufAfter_changed hne with ⟨_, ha | ⟨h2, ha⟩⟩
  · omega
  · obtain rfl | rfl : p = 0 ∨ p = 1 := by omega
    all_goals omega

/-- An accepted PIXEL (R180). -/
theorem State.restZero.pixel {s : State} (hz : s.restZero) (h : s.Inv) (hs : s.frame = .busy) (hx : s.x ≠ s.width)
    (c : Code) :
    State.restZero { s with
      x := s.x + 1, acc0 := s.nextAcc0 c, acc1 := s.nextAcc1 c, outbuf := s.outbufAfter c } := by
  intro _ p (hp : p < s.mode.romPlanes) j (hj : s.advanceX.byteIndex ≤ j) (hlt : j < s.planeBytes)
  obtain ⟨_, hw, _⟩ := h.busy_accepts hs
  rw [State.advanceX_byteIndex (h.x_lt_width hs hx) hw] at hj
  show (s.outbufAfter c).read (p * s.planeBytes + j) = 0
  by_cases hc : s.completesByte = true
  · rw [if_pos hc] at hj
    rw [State.outbufAfter_read_of_byteIndex_lt hp hj hlt c]
    exact hz hs p hp j (Nat.le_of_succ_le hj) hlt
  · rw [if_neg hc] at hj
    rw [State.outbufAfter, if_neg hc]
    exact hz hs p hp j hj hlt

/-- An accepted ROW_END (R190). -/
theorem State.restZero.endRow {s : State} (hz : s.restZero) (h : s.Inv) (hs : s.frame = .busy) (hy : s.y ≠ s.height)
    (hx : s.x = s.width) : s.endRow.restZero := by
  intro _ p hp j hj hlt
  rw [State.endRow_byteIndex (h.y_lt_height hs hy) hx] at hj
  exact hz hs p hp j hj hlt

/-- A START that opens a frame has cleared every byte (R131). -/
theorem State.startFrame_restZero (s : State) : s.startFrame.restZero := by
  intro hb p _ j _ _
  rw [State.startFrame_outbuf_of_busy hb]
  exact Memory.read_cleared _

/-- Only a PIXEL or a ROW_END moves the byte index of a running frame; any other effect leaves it, opens a frame or ends one. -/
theorem Effect.keeps_restZero {i : Instr} {s t : State} (e : Effect i s t) (h : s.Inv) (hz : s.restZero) :
    t.restZero := by
  cases e with
  | nothing | responds | drops | enables => exact hz
  | configures _ hs => exact fun hb => absurd hb hs
  | starts => exact s.startFrame_restZero
  | packs _ c _ hs _ hx => exact hz.pixel h hs hx c
  | endsRow _ _ hs hy hx => exact hz.endRow h hs hy hx
  | aborts | fails | endsFrame => exact nofun

/-- Settles O13: an idle step, a reset event, an effect of an operation or a reserved access. -/
theorem unfinishedBytesStayZero : Obligations.UnfinishedBytesStayZero := by
  intro s t h hz hstep
  rcases step_cases hstep with ⟨_, rfl⟩ | ⟨_, _, rfl⟩ | ⟨_, rest, _, _, _, he⟩ | ⟨_, rest, r, _, _, rfl⟩
  · exact hz
  · exact nofun
  · exact (exec_effect he).keeps_restZero (h.accept rest) hz
  · exact (Effect.of_reserved .rdStatus r).keeps_restZero (h.accept rest) hz

/-! ## Reads (R76) -/

/-- The read row of a register answers the register (R95). -/
theorem exec_reg_read (r : Reg) (d : Word) (s : State) :
    exec (r.operation false d) s = .next (s.respond (s.readReg r)) := by
  cases r <;> rfl

/-- A word with WE = 0 forms a response and does nothing else: an OUT read, a register read or a reserved read. -/
theorem perform_read {T : TxnWord} (hT : T.getLsbD 62 = false) (s : State) :
    ∃ v, perform T s = .next (s.respond v) := by
  have hwe : (Txn.ofWord T).we = false := hT
  rcases (Txn.ofWord T).decode_cases with ⟨_, hd⟩ | ⟨_, r, _, hd⟩ | ⟨_, hd, _⟩ <;> rw [hwe] at hd
  · exact ⟨s.readOut (Txn.ofWord T).addr, perform_ok hd s⟩
  · exact ⟨s.readReg r, (perform_ok hd s).trans (exec_reg_read r _ s)⟩
  · exact ⟨0, perform_error hd s⟩

/-- Settles O35: the port law `step_event`, then what a read performs on the accepted state. -/
theorem readsHaveNoSideEffect : Obligations.ReadsHaveNoSideEffect := by
  intro s T rest hp hT
  obtain ⟨v, hv⟩ := perform_read hT (s.accept rest)
  exact ⟨v, (step_event hp).trans hv⟩

end Sys2Proof.Machine
end

section
/-! PROOFS, 30_encoding.md: decoding and encoding agree (R90, R102), the opcode map (R96), reserved accesses (R97) and the assembler
(R100, R101). -/

namespace Sys2Proof

open Machine

/-! ## The operations, register by register -/

/-- Every operation is the read or the write of a register, or an OUT operation: the rows of R96 in the order of R23. -/
theorem Instr.byRegister {P : Instr → Prop} (reg : ∀ (r : Reg) (we : Bool) (d : Word), P (r.operation we d))
    (out : ∀ (we : Bool) (a : Addr) (d : Word), P (if we then .wrOut a d else .rdOut a)) : ∀ i, P i
  | .wrCtrl d => reg .ctrl true d | .rdCtrl => reg .ctrl false 0
  | .wrStatus d => reg .status true d | .rdStatus => reg .status false 0
  | .wrMode d => reg .mode true d | .rdMode => reg .mode false 0
  | .wrWidth d => reg .width true d | .rdWidth => reg .width false 0
  | .wrHeight d => reg .height true d | .rdHeight => reg .height false 0
  | .wrPlanes d => reg .planes true d | .rdPlanes => reg .planes false 0
  | .wrPalLen d => reg .palLen true d | .rdPalLen => reg .palLen false 0
  | .wrInten d => reg .inten true d | .rdInten => reg .inten false 0
  | .wrOutLen d => reg .outLen true d | .rdOutLen => reg .outLen false 0
  | .wrErrPos d => reg .errPos true d | .rdErrPos => reg .errPos false 0
  | .wrErrRgb d => reg .errRgb true d | .rdErrRgb => reg .errRgb false 0
  | .wrPos d => reg .pos true d | .rdPos => reg .pos false 0
  | .wrAcc d => reg .acc true d | .rdAcc => reg .acc false 0
  | .wrCaps d => reg .caps true d | .rdCaps => reg .caps false 0
  | .wrPal n d => reg (.pal n) true d | .rdPal n => reg (.pal n) false 0
  | .wrPixel d => reg .pixel true d | .rdPixel => reg .pixel false 0
  | .wrRowEnd d => reg .rowEnd true d | .rdRowEnd => reg .rowEnd false 0
  | .wrFrameEnd d => reg .frameEnd true d | .rdFrameEnd => reg .frameEnd false 0
  | .wrOut a d => out true a d | .rdOut a => out false a 0

/-- A read carries no DATA (log entry 7). -/
theorem operation_read (r : Reg) (d e : Word) : r.operation false d = r.operation false e := by
  cases r <;> rfl

theorem row_operation (r : Reg) (we : Bool) (d e : Word) : (r.operation we d).row = (r.operation we e).row := by
  cases we with
  | false => rw [operation_read r d e]
  | true => cases r <;> rfl

/-! ## Words and their fields -/

/-- A mask acts on each field by itself. -/
theorem Txn.ofWord_and (T M : TxnWord) :
    Txn.ofWord (T &&& M) =
      ⟨(Txn.ofWord T).sp && (Txn.ofWord M).sp, (Txn.ofWord T).we && (Txn.ofWord M).we,
        (Txn.ofWord T).addr &&& (Txn.ofWord M).addr, (Txn.ofWord T).data &&& (Txn.ofWord M).data⟩ := by
  simp [Txn.ofWord, BitVec.extractLsb'_and]

/-- The mask of a REG row (R96) clears DATA and nothing else. -/
theorem Txn.ofWord_clearData (T : TxnWord) :
    Txn.ofWord (T &&& 0xFFFFFFFF00000000) = { Txn.ofWord T with data := 0 } := by
  have hM : Txn.ofWord 0xFFFFFFFF00000000 = ⟨true, true, BitVec.allOnes 30, 0⟩ := by decide
  rw [Txn.ofWord_and, hM]
  simp only [Bool.and_true, BitVec.and_allOnes, BitVec.ofNat_eq_ofNat, BitVec.and_zero]

theorem decode_word (t : Txn) : decode t.word = t.decode := by
  rw [decode, Txn.ofWord_word]

/-! ## What the encoder writes (R90, R96) -/

/-- A word whose DATA is 0 keeps its other fields under any DATA laid over it. -/
theorem Txn.ofWord_or_data_of_fields {p : TxnWord} {sp we : Bool} {a : Addr} (hp : Txn.ofWord p = ⟨sp, we, a, 0⟩) (d : Word) :
    Txn.ofWord (p ||| d.setWidth 64) = ⟨sp, we, a, d⟩ := by
  rw [Txn.ofWord_or_data p d (congrArg Txn.data hp), hp]

theorem ofWord_encode_write (r : Reg) (d : Word) :
    Txn.ofWord (encode (r.operation true d)) = ⟨false, true, r.offset.setWidth 30, d⟩ := by
  cases r with
  | pal n =>
    show Txn.ofWord (0x4000004000000000 ||| (n.setWidth 64 <<< 34 ||| d.setWidth 64)) = _
    rw [← BitVec.or_assoc]
    refine Txn.ofWord_or_data_of_fields ?_ d
    revert n
    decide
  | _ =>
    refine Txn.ofWord_or_data_of_fields (p := Row.pattern _) ?_ d
    rw [row_operation _ true d 0]
    decide

theorem ofWord_encode_read (r : Reg) (d : Word) :
    Txn.ofWord (encode (r.operation false d)) = ⟨false, false, r.offset.setWidth 30, 0⟩ := by
  rw [operation_read r d 0]
  cases r with
  | pal n => revert n; decide
  | _ => decide

theorem ofWord_encode_operation (r : Reg) (we : Bool) (d : Word) :
    Txn.ofWord (encode (r.operation we d)) = ⟨false, we, r.offset.setWidth 30, if we then d else 0⟩ := by
  cases we with
  | false => exact ofWord_encode_read r d
  | true => exact ofWord_encode_write r d

/-- ADDR laid over a pattern whose [61:32] are 0 changes the ADDR field alone. -/
theorem Txn.ofWord_or_addr (p : TxnWord) (a : Addr) (hp : p.extractLsb' 32 30 = 0) :
    Txn.ofWord (p ||| a.setWidth 64 <<< 32) = { Txn.ofWord p with addr := a } := by
  simp only [Txn.ofWord, Txn.mk.injEq]
  refine ⟨by simp, by simp, ?_, ?_⟩
  · rw [BitVec.extractLsb'_or, hp]
    ext k hk
    simp [BitVec.getElem_extractLsb', hk, show 32 + k < 64 by omega]
  · rw [BitVec.extractLsb'_or]
    ext k hk
    simp [BitVec.getElem_extractLsb', hk]

theorem ofWord_encode_out (we : Bool) (a : Addr) (d : Word) :
    Txn.ofWord (encode (if we then .wrOut a d else .rdOut a)) = ⟨true, we, a, if we then d else 0⟩ := by
  cases we with
  | false =>
    show Txn.ofWord (0x8000000000000000 ||| a.setWidth 64 <<< 32) = _
    exact Txn.ofWord_or_addr _ a (by decide)
  | true =>
    have hp : Txn.ofWord (0xC000000000000000 ||| a.setWidth 64 <<< 32) = ⟨true, true, a, 0⟩ :=
      Txn.ofWord_or_addr _ a (by decide)
    show Txn.ofWord (0xC000000000000000 ||| (a.setWidth 64 <<< 32 ||| d.setWidth 64)) = _
    rw [← BitVec.or_assoc]
    exact Txn.ofWord_or_data_of_fields hp d

/-! ## Decoding and encoding agree -/

/-- Settles O1: the fields the encoder writes are those of a register's or of an OUT transaction. -/
theorem decodeEncodeRoundTrip : Obligations.DecodeEncodeRoundTrip := by
  intro i
  induction i using Instr.byRegister with
  | reg r we d =>
    rw [decode, ofWord_encode_operation, Txn.decode_reg]
    cases we with
    | false => exact congrArg _ (operation_read r 0 d)
    | true => rfl
  | out we a d =>
    rw [decode, ofWord_encode_out, Txn.decode_out]
    cases we <;> rfl

/-- The fields of a word that decodes to an operation are those the encoder writes, but for the DATA of a read. -/
theorem ofWord_encode_of_decode {T : TxnWord} {i : Instr} (h : decode T = .ok i) :
    Txn.ofWord (encode i) = { Txn.ofWord T with data := if T.getLsbD 62 then (Txn.ofWord T).data else 0 } := by
  rcases (Txn.ofWord T).decode_cases with ⟨hsp, hd⟩ | ⟨hsp, r, haddr, hd⟩ | ⟨_, hd, _⟩ <;> cases hd.symm.trans h
  · rw [ofWord_encode_out, ← hsp]; rfl
  · rw [ofWord_encode_operation, ← hsp, ← haddr]; rfl

/-- Settles O2: both words have the same fields, and a word is the word of its fields. -/
theorem encodeDecodeRestoresWord : Obligations.EncodeDecodeRestoresWord := by
  intro T i h
  apply Txn.ofWord_inj
  rw [ofWord_encode_of_decode h]
  cases T.getLsbD 62 with
  | false => exact (Txn.ofWord_clearData T).symm
  | true => rfl

/-! ## The rows of the opcode map (R96) -/

/-- The rows whose mask leaves free DATA and the ADDR bits outside `am`: a word selects one by its other fields. -/
theorem selectedBy_iff_fields {r : Row} {sp we : Bool} {am p : Addr} (hm : Txn.ofWord r.mask = ⟨true, true, am, 0⟩)
    (hp : Txn.ofWord r.pattern = ⟨sp, we, p, 0⟩) (T : TxnWord) :
    r.selectedBy T = true ↔ (Txn.ofWord T).sp = sp ∧ (Txn.ofWord T).we = we ∧ (Txn.ofWord T).addr &&& am = p := by
  have hfields : r.selectedBy T = true ↔ Txn.ofWord (T &&& r.mask) = Txn.ofWord r.pattern := by
    rw [Row.selectedBy, beq_iff_eq]
    exact ⟨congrArg _, Txn.ofWord_inj⟩
  rw [hfields, Txn.ofWord_and, hm, hp, Txn.mk.injEq]
  simp only [Bool.and_true, BitVec.ofNat_eq_ofNat, BitVec.and_zero, and_true]

theorem row_fixed : ∀ r ∈ Reg.fixed, ∀ we,
    (r.operation we 0).row.mask = 0xFFFFFFFF00000000 ∧
    Txn.ofWord (r.operation we 0).row.pattern = ⟨false, we, r.offset.setWidth 30, 0⟩ := by decide

theorem Reg.mem_fixed_or_pal (r : Reg) : r ∈ Reg.fixed ∨ ∃ n, r = .pal n := by
  cases r with
  | pal n => exact .inr ⟨n, rfl⟩
  | _ => exact .inl (by decide)

theorem row_fixed_selectedBy_iff {r : Reg} (hr : r ∈ Reg.fixed) (we : Bool) (d : Word) (T : TxnWord) :
    (r.operation we d).row.selectedBy T = true ↔
      (Txn.ofWord T).sp = false ∧ (Txn.ofWord T).we = we ∧ (Txn.ofWord T).addr = r.offset.setWidth 30 := by
  obtain ⟨hmask, hpattern⟩ := row_fixed r hr we
  have hm : Txn.ofWord (r.operation we 0).row.mask = ⟨true, true, BitVec.allOnes 30, 0⟩ := by rw [hmask]; decide
  rw [row_operation r we d 0, selectedBy_iff_fields hm hpattern, BitVec.and_allOnes]

theorem Reg.pal_offset_toNat (n : Code) : (Reg.pal n).offset.toNat = 0x40 + 4 * n.toNat := by
  revert n; decide

/-- Where a mask is all ones, the masked address is the address. -/
theorem extractLsb'_of_and_mask {a m v : Addr} {k n : Nat} (hm : m.extractLsb' k n = BitVec.allOnes n) (h : a &&& m = v) :
    a.extractLsb' k n = v.extractLsb' k n := by
  rw [← h, BitVec.extractLsb'_and, hm, BitVec.and_allOnes]

/-- The mask and the pattern of the PAL rows pick out the addresses of the eight palette registers (R92). -/
theorem addr_and_palMask_iff (a : Addr) : a &&& 0x3FFFFFE3 = 0x40 ↔ ∃ n, a = (Reg.pal n).offset.setWidth 30 := by
  constructor
  · intro h
    have hhigh : a.extractLsb' 5 25 = 2#25 := extractLsb'_of_and_mask (by decide) h
    have hlow : a.extractLsb' 0 2 = 0#2 := extractLsb'_of_and_mask (by decide) h
    refine ⟨a.extractLsb' 2 3, BitVec.eq_of_toNat_eq ?_⟩
    rw [BitVec.toNat_setWidth, Reg.pal_offset_toNat]
    have hhigh := congrArg BitVec.toNat hhigh
    have hlow := congrArg BitVec.toNat hlow
    simp only [BitVec.extractLsb'_toNat, BitVec.toNat_ofNat, Nat.shiftRight_eq_div_pow] at hhigh hlow ⊢
    omega
  · rintro ⟨n, rfl⟩
    revert n; decide

/-- All palette registers share a row, as ADDR[4:2] is free in it. -/
theorem row_pal (n : Code) (we : Bool) (d : Word) :
    ((Reg.pal n).operation we d).row = ((Reg.pal 0).operation we 0).row := by
  cases we <;> rfl

theorem row_pal_selectedBy_iff (n : Code) (we : Bool) (d : Word) (T : TxnWord) :
    ((Reg.pal n).operation we d).row.selectedBy T = true ↔
      (Txn.ofWord T).sp = false ∧ (Txn.ofWord T).we = we ∧ ∃ m, (Txn.ofWord T).addr = (Reg.pal m).offset.setWidth 30 := by
  rw [← addr_and_palMask_iff, row_pal]
  cases we with
  | false => exact selectedBy_iff_fields (by decide) (by decide) T
  | true => exact selectedBy_iff_fields (by decide) (by decide) T

/-- An OUT row leaves ADDR and DATA free. -/
theorem row_out (we : Bool) (a : Addr) (d : Word) :
    Instr.row (if we then .wrOut a d else .rdOut a) = Instr.row (if we then .wrOut 0 0 else .rdOut 0) := by
  cases we <;> rfl

theorem row_out_selectedBy_iff (we : Bool) (a : Addr) (d : Word) (T : TxnWord) :
    (Instr.row (if we then .wrOut a d else .rdOut a)).selectedBy T = true ↔
      (Txn.ofWord T).sp = true ∧ (Txn.ofWord T).we = we := by
  have hm : Txn.ofWord (Instr.row (if we then .wrOut 0 0 else .rdOut 0)).mask = ⟨true, true, 0, 0⟩ := by revert we; decide
  have hp : Txn.ofWord (Instr.row (if we then .wrOut 0 0 else .rdOut 0)).pattern = ⟨true, we, 0, 0⟩ := by revert we; decide
  rw [row_out, selectedBy_iff_fields hm hp]
  simp only [BitVec.ofNat_eq_ofNat, BitVec.and_zero, and_true]

/-- A word that decodes to an operation selects the operation's row. -/
theorem row_selectedBy_of_decode {T : TxnWord} {i : Instr} (h : decode T = .ok i) : i.row.selectedBy T = true := by
  rcases (Txn.ofWord T).decode_cases with ⟨hsp, hd⟩ | ⟨hsp, r, haddr, hd⟩ | ⟨_, hd, _⟩ <;> cases hd.symm.trans h
  · exact (row_out_selectedBy_iff _ _ _ T).2 ⟨hsp, rfl⟩
  · rcases r.mem_fixed_or_pal with hr | ⟨n, rfl⟩
    · exact (row_fixed_selectedBy_iff hr _ _ T).2 ⟨hsp, rfl, haddr⟩
    · exact (row_pal_selectedBy_iff n _ _ T).2 ⟨hsp, rfl, n, haddr⟩

/-- A word with the fields of a register decodes to the register's row. -/
theorem decode_of_reg_fields {T : TxnWord} {r : Reg} {we : Bool} (hsp : (Txn.ofWord T).sp = false)
    (hwe : (Txn.ofWord T).we = we) (haddr : (Txn.ofWord T).addr = r.offset.setWidth 30) :
    decode T = .ok (r.operation we (Txn.ofWord T).data) := by
  rw [← Txn.decode_reg r we, ← hsp, ← hwe, ← haddr]; rfl

/-- A word that selects a row of the map decodes to an operation of that row. -/
theorem decode_of_row_selectedBy {i : Instr} {T : TxnWord} (h : i.row.selectedBy T = true) :
    ∃ j, decode T = .ok j ∧ j.row = i.row := by
  induction i using Instr.byRegister with
  | reg r we d =>
    rcases r.mem_fixed_or_pal with hr | ⟨n, rfl⟩
    · obtain ⟨hsp, hwe, haddr⟩ := (row_fixed_selectedBy_iff hr we d T).1 h
      exact ⟨_, decode_of_reg_fields hsp hwe haddr, row_operation r we _ d⟩
    · obtain ⟨hsp, hwe, m, haddr⟩ := (row_pal_selectedBy_iff n we d T).1 h
      exact ⟨_, decode_of_reg_fields hsp hwe haddr, (row_pal m we _).trans (row_pal n we d).symm⟩
  | out we a d =>
    obtain ⟨hsp, hwe⟩ := (row_out_selectedBy_iff we a d T).1 h
    exact ⟨_, by rw [decode, Txn.decode, if_pos hsp, hwe], (row_out we _ _).trans (row_out we a d).symm⟩

theorem exists_row_of_mem {r : Row} (h : r ∈ opcodeTable) : ∃ i : Instr, i.row = r := by
  obtain ⟨i, _, hi⟩ := List.mem_map.1 h
  exact ⟨i, hi⟩

/-- Settles O3: a row of the map is an operation's, and a word selects it exactly where it decodes to an operation of the row. -/
theorem decoderFollowsOpcodeMap : Obligations.DecoderFollowsOpcodeMap := by
  refine ⟨fun T i hd => ⟨i.row_mem, row_selectedBy_of_decode hd, fun r hr hsel => ?_⟩, fun T a hd r hr => ?_⟩
  · obtain ⟨i', rfl⟩ := exists_row_of_mem hr
    obtain ⟨j, hj, hrow⟩ := decode_of_row_selectedBy hsel
    cases hj.symm.trans hd
    exact hrow.symm
  · obtain ⟨i', rfl⟩ := exists_row_of_mem hr
    by_contra hsel
    obtain ⟨j, hj, _⟩ := decode_of_row_selectedBy (eq_true_of_ne_false hsel)
    cases hj.symm.trans hd

/-! ## Reserved accesses (R97) -/

theorem decode_error_iff_not_wellFormed (T : TxnWord) :
    (∃ a, decode T = .error a) ↔ ¬ (Txn.ofWord T).wellFormed = true := by
  rw [Txn.wellFormed_iff, ← decode]
  cases decode T with
  | ok i => simp
  | error a => simp

theorem Txn.namesRegister_iff (t : Txn) :
    t.namesRegister = true ↔ ¬ (t.addr.extractLsb' 0 8 = 0x38 ∨ t.addr.extractLsb' 0 8 = 0x3C ∨
      0x6C ≤ (t.addr.extractLsb' 0 8).toNat) := by
  have key : ∀ off : Byte, (off.toNat != 0x38 && off.toNat != 0x3C && decide (off.toNat < 0x6C)) = true ↔
      ¬ (off = 0x38 ∨ off = 0x3C ∨ 0x6C ≤ off.toNat) := by decide
  exact key _

/-- The checks of R97 in its own words. -/
theorem Txn.not_wellFormed_iff (t : Txn) :
    ¬ t.wellFormed = true ↔ t.sp = false ∧
      (t.addr.extractLsb' 8 22 ≠ 0 ∨ t.addr.extractLsb' 0 2 ≠ 0 ∨ t.addr.extractLsb' 0 8 = 0x38 ∨
        t.addr.extractLsb' 0 8 = 0x3C ∨ 0x6C ≤ (t.addr.extractLsb' 0 8).toNat) := by
  rw [Txn.wellFormed, Bool.or_eq_true, Bool.and_eq_true, Bool.and_eq_true, Txn.namesRegister_iff, Txn.inRegSpace, Txn.aligned,
    beq_iff_eq, beq_iff_eq, ← Bool.not_eq_true]
  tauto

/-- The word's bits that hold part of ADDR. -/
theorem extractLsb'_ofWord_addr (T : TxnWord) (k n : Nat) (h : k + n ≤ 30) :
    (Txn.ofWord T).addr.extractLsb' k n = T.extractLsb' (32 + k) n := by
  ext j hj
  simp [Txn.ofWord, BitVec.getElem_extractLsb', show k + j < 30 by omega, Nat.add_assoc]

theorem decode_error_we {T : TxnWord} {a : ReservedAccess} (h : decode T = .error a) : a.we = T.getLsbD 62 := by
  rcases (Txn.ofWord T).decode_cases with ⟨_, hd⟩ | ⟨_, _, _, hd⟩ | ⟨_, hd, _⟩ <;> cases hd.symm.trans h
  rfl

/-- Settles O4: the checks of R97 name the words the decoder refuses, and the step takes such a word and answers a read with 0. -/
theorem reservedAccessesAreIgnored : Obligations.ReservedAccessesAreIgnored := by
  intro T
  constructor
  · rw [decode_error_iff_not_wellFormed, Txn.not_wellFormed_iff]
    rw [extractLsb'_ofWord_addr T 8 22 (by decide), extractLsb'_ofWord_addr T 0 2 (by decide),
      extractLsb'_ofWord_addr T 0 8 (by decide)]
    rfl
  · intro a s rest hd hp
    rw [step_event hp]
    refine (perform_error hd _).trans ?_
    rw [State.reservedAccess, decode_error_we hd]
    cases T.getLsbD 62 <;> rfl

/-! ## The assembler (R100, R101) -/

theorem decode_wr (r : Reg) (imm : Word) : decode (Asm.wr r imm).word = .ok (r.operation true imm) :=
  (decode_word _).trans (Txn.decode_reg r true imm)

theorem decode_rd (r : Reg) : decode (Asm.rd r).word = .ok (r.operation false 0) :=
  (decode_word _).trans (Txn.decode_reg r false 0)

theorem decode_rdout (a : Addr) : decode (Asm.rdout a).word = .ok (.rdOut a) :=
  (decode_word _).trans (Txn.decode_out false a 0)

theorem decode_wrout (a : Addr) (imm : Word) : decode (Asm.wrout a imm).word = .ok (.wrOut a imm) :=
  (decode_word _).trans (Txn.decode_out true a imm)

/-- Settles O6: a line is the word of its transaction, and a pseudo-instruction is the `wr` line it expands to. -/
theorem assemblerNamesTransactions : Obligations.AssemblerNamesTransactions :=
  ⟨decode_wr, decode_rd,
    fun a imm => ⟨decode_rdout a, decode_wrout a imm, Txn.ofWord_word _, Txn.ofWord_word _⟩,
    decode_wr .ctrl 1, decode_wr .ctrl 2, decode_wr .mode 0, decode_wr .mode 1, decode_wr .mode 2,
    decode_wr .rowEnd 0, decode_wr .frameEnd 0,
    fun n _ _ _ => decode_wr (.pal n) _, fun _ _ _ => decode_wr .pixel _, fun _ _ _ _ => decode_wr .pixel _⟩

/-- Settles O5: each word is that of the assembler line in the listing. -/
theorem sampleWordsDecode : Obligations.SampleWordsDecode :=
  ⟨decode_wr .ctrl 1, decode_wr .mode 2, decode_wr (.pal 3) 0xFF, decode_wr .pixel 0x00FF00FF, decode_wr .rowEnd 0,
    decode_wr .frameEnd 0, decode_rd .pos, decode_rdout 3⟩

end Sys2Proof
end

section
/-! PROOFS, 40_palette.md: the palette lookup ROM (R112, R113, R122), the palette matcher (R114, R115), and the reads of the
configuration registers (R118, R120) with their kin of 41_control.md. -/

namespace Sys2Proof.Machine

/-! ## The classifier (R115) -/

/-- `c` is the code R115 asks for: the highest index below N whose entry equals the key. -/
def State.HighestMatch (s : State) (key : Key) (c : Code) : Prop :=
  c.toNat < s.mode.romN ∧ s.palEntry c = key ∧ ∀ i : Code, c.toNat < i.toNat → i.toNat < s.mode.romN → s.palEntry i ≠ key

theorem State.HighestMatch.unique {s : State} {key : Key} {c c' : Code} (h : s.HighestMatch key c)
    (h' : s.HighestMatch key c') : c = c' := by
  obtain ⟨hn, hk, habove⟩ := h
  obtain ⟨hn', hk', habove'⟩ := h'
  rcases lt_trichotomy c.toNat c'.toNat with hlt | heq | hgt
  · exact absurd hk' (habove c' hlt hn')
  · exact BitVec.eq_of_toNat_eq heq
  · exact absurd hk (habove' c hgt hn)

/-- Everything the classifier can answer. -/
theorem State.classify_cases (s : State) (key : Key) :
    (s.classify key = none ∧ ∀ i : Code, i.toNat < s.mode.romN → s.palEntry i ≠ key) ∨
    ∃ c, s.classify key = some c ∧ s.HighestMatch key c :=
  lastMatch_spec s.palEntry key s.mode.romN (s.mode.romN_le.trans (by decide))

theorem State.classify_eq_none_iff (s : State) (key : Key) :
    s.classify key = none ↔ ∀ i : Code, i.toNat < s.mode.romN → s.palEntry i ≠ key := by
  rcases s.classify_cases key with ⟨hnone, hno⟩ | ⟨c, hsome, hn, hk, _⟩
  · exact iff_of_true hnone hno
  · exact iff_of_false (by simp [hsome]) fun hno => hno c hn hk

theorem State.classify_eq_some_iff (s : State) (key : Key) (c : Code) :
    s.classify key = some c ↔ s.HighestMatch key c := by
  rcases s.classify_cases key with ⟨hnone, hno⟩ | ⟨c', hsome, hc'⟩
  · exact iff_of_false (by simp [hnone]) fun ⟨hn, hk, _⟩ => hno c hn hk
  · rw [hsome, Option.some_inj]
    exact ⟨fun h => h ▸ hc', hc'.unique⟩

/-- Settles O20: the classifier answers some highest match where there is one, and there is at most one. -/
theorem classifierPicksHighestMatch : Obligations.ClassifierPicksHighestMatch := fun s key =>
  ⟨s.classify_eq_none_iff key, s.classify_eq_some_iff key⟩

/-! ## The palette lookup ROM (R112, R113) -/

/-- The last 8 words of FROM, those of MODE 3, are 0, and there are no more than 32. -/
theorem fromWords_getD_eq_zero {k : Nat} (hk : 24 ≤ k) : fromWords.getD k 0 = 0 := by
  have unusedMode : ∀ k < 32, 24 ≤ k → fromWords.getD k 0 = 0 := by decide
  rcases lt_or_ge k fromWords.length with hlt | hge
  · exact unusedMode k hlt hk
  · exact List.getD_eq_default _ _ hge

/-- `FIELD(m, c, 0)` in the modes of one plane: the code in 7C, the nibble map in RWB4. `FIELD(m, c, 1)` is 0. -/
theorem Mode.romFields_of_ne_rwb {m : Mode} (hm : m ≠ .rwb) :
    ∀ c : Code, c.toNat < m.romN → (m.romField0 c).setWidth 8 = m.nibbleOf c ∧ m.romField1 c = 0 := by
  cases m with
  | sevenColour => decide
  | rwb => exact absurd rfl hm
  | rwb4 => decide

/-- The fields of RWB: the black-and-white bit and the red bit, a plane each. -/
theorem Mode.romFields_rwb : ∀ c : Code, c.toNat < Mode.romN .rwb →
    Mode.romField0 .rwb c = (BitVec.ofBool (bwBit c)).setWidth 4 ∧
    Mode.romField1 .rwb c = (BitVec.ofBool (redBit c)).setWidth 4 := by decide

theorem Mode.fromWord_eq_zero (m : Mode) : ∀ c : Code, m.romN ≤ c.toNat → m.fromWord c = 0 := by
  cases m <;> decide

theorem Mode.romPack_mul_romFb (m : Mode) : m.romPack * m.romFb = 8 := by cases m <;> decide

/-- Settles O18: the MPROM literals and their fields by evaluation, the FROM words by the lemmas above. -/
theorem romContents : Obligations.RomContents :=
  ⟨rfl, fun _ hk => fromWords_getD_eq_zero hk, by decide, by decide, by decide, Mode.romPack_mul_romFb,
    fun _ hm => Mode.romFields_of_ne_rwb hm, Mode.romFields_rwb, Mode.fromWord_eq_zero⟩

/-! ## The code-to-field map (R122) -/

/-- A FROM word has no bits but its two fields (R113). -/
theorem Mode.fields_eq_fromWord (m : Mode) (c : Code) : m.romField1 c ++ m.romField0 c = m.fromWord c :=
  BitVec.extractLsb'_append_extractLsb'_eq_extractLsb' (by decide) |>.trans BitVec.extractLsb'_eq_self

/-- The FROM words of the codes below N differ. -/
theorem Mode.fromWord_inj (m : Mode) : ∀ c c' : Code, c.toNat < m.romN → c'.toNat < m.romN →
    m.fromWord c = m.fromWord c' → c = c' := by
  cases m <;> decide

theorem Mode.romFields_inj {m : Mode} {c c' : Code} (hc : c.toNat < m.romN) (hc' : c'.toNat < m.romN)
    (h0 : m.romField0 c = m.romField0 c') (h1 : m.romField1 c = m.romField1 c') : c = c' := by
  apply m.fromWord_inj c c' hc hc'
  rw [← m.fields_eq_fromWord c, ← m.fields_eq_fromWord c', h0, h1]

/-- No code below N sets the bits of both planes: R122's (1, 1) does not occur. -/
theorem Mode.romFields_rwb_not_both {c : Code} (hc : c.toNat < Mode.romN .rwb) :
    ¬ (Mode.romField0 .rwb c = 1 ∧ Mode.romField1 .rwb c = 1) := by
  obtain ⟨h0, h1⟩ := Mode.romFields_rwb c hc
  rw [h0, h1]
  revert c
  decide

/-- Settles O19: the fields are the FROM word, and the FROM words below N differ; the maps themselves by evaluation. -/
theorem fieldMapIsInjective : Obligations.FieldMapIsInjective :=
  ⟨fun _ _ _ => Mode.romFields_inj, by decide, by decide, fun _ => Mode.romFields_rwb_not_both, by decide⟩

/-! ## The key of a pixel (R114) -/

/-- A PIXEL reads its DATA through the key alone. -/
theorem exec_wrPixel_of_key_eq {d d' : Word} (h : pixelKey d = pixelKey d') (s : State) :
    exec (.wrPixel d) s = exec (.wrPixel d') s := by
  simp only [exec, execWrPixel, h]

/-- Settles O21: the key is DATA[31:8], and a PIXEL depends on its DATA through the key alone. -/
theorem alphaTakesNoPart : Obligations.AlphaTakesNoPart := fun s _ _ h =>
  ⟨congrArg s.classify h, exec_wrPixel_of_key_eq h s⟩

/-! ## Reads of the configuration registers (R118, R120, R146-R150) -/

/-- The MODE field as RD_MODE answers it (R146). -/
theorem Mode.bits_setWidth (m : Mode) :
    m.bits.setWidth 32 = (match m with | .sevenColour => 0 | .rwb => 1 | .rwb4 => 2 : Word) := by
  cases m <;> rfl

/-- RD_PAL's pattern (R96) with n at ADDR[4:2] holds the address of PALn (R92). -/
theorem ofWord_rdPal (n : Code) :
    Txn.ofWord (0x0000004000000000 ||| n.setWidth 64 <<< 34) = ⟨false, false, (Reg.pal n).offset.setWidth 30, 0⟩ := by
  revert n; decide

/-- Settles O27: each word has the fields of its register's read, and that read answers the register (`exec_reg_read`). -/
theorem configurationReads : Obligations.ConfigurationReads :=
  ⟨decode_reg_word (r := .mode) (we := false) (by decide), decode_reg_word (r := .width) (we := false) (by decide),
    decode_reg_word (r := .height) (we := false) (by decide), decode_reg_word (r := .planes) (we := false) (by decide),
    decode_reg_word (r := .palLen) (we := false) (by decide), decode_reg_word (r := .inten) (we := false) (by decide),
    fun n => decode_reg_word (r := .pal n) (we := false) (ofWord_rdPal n),
    fun s => ⟨(exec_reg_read .mode 0 s).trans (congrArg (Host.Outcome.next <| s.respond ·) s.mode.bits_setWidth),
      exec_reg_read .width 0 s, exec_reg_read .height 0 s, exec_reg_read .planes 0 s, exec_reg_read .palLen 0 s,
      exec_reg_read .inten 0 s, fun n => exec_reg_read (.pal n) 0 s⟩⟩

end Sys2Proof.Machine
end

section
/-! PROOFS, 41_control.md: dropped writes (R135), configuration, interrupt enable and control writes (R130-R142), the reads of status,
result and position (R145-R157), and the accesses with no effect (R160-R174). -/

namespace Sys2Proof

/-! ## Kinds of registers (R160, R161) -/

/-- The read-only registers (R160). -/
def Reg.isReadOnly : Reg → Bool
  | .status | .outLen | .errPos | .errRgb | .pos | .acc | .caps => true
  | _ => false

/-- The registers that are written only (R161). -/
def Reg.isWriteOnly : Reg → Bool
  | .ctrl | .pixel | .rowEnd | .frameEnd => true
  | _ => false

end Sys2Proof

namespace Sys2Proof.Machine

/-! ## Dropped writes (R135, R136) -/

/-- The two kinds of write that are dropped: a configuration write in BUSY and a stream write outside it (R135). -/
def State.Drops (s : State) (i : Instr) : Prop :=
  (i.isConfigWrite = true ∧ s.frame = .busy) ∨ (i.isStream = true ∧ s.frame ≠ .busy)

theorem exec_of_drops {s : State} {i : Instr} (h : s.Drops i) : exec i s = .next s.drop := by
  rcases h with ⟨hi, hs⟩ | ⟨hi, hs⟩
  · cases i with
    | wrMode | wrWidth | wrHeight | wrPlanes | wrPalLen | wrPal => exact congrArg _ (State.cfgWrite_busy hs _)
    | _ => cases hi
  · cases i with
    | wrPixel | wrRowEnd | wrFrameEnd => exact if_pos hs
    | _ => cases hi

theorem State.startFrame_dropped (s : State) : s.startFrame.dropped = false := by
  rcases s.startFrame_refuses_or_opens with ⟨_, k, e, _, _, eq⟩ | ⟨_, eq⟩ <;> rw [eq] <;> rfl

/-- Only a dropped write sets DROPPED, and only START and ABORT clear it. -/
theorem Effect.dropped_cases {i : Instr} {s t : State} (e : Effect i s t) :
    t.dropped = s.dropped ∨ (t.dropped = true ∧ s.Drops i) ∨
    (t.dropped = false ∧ ∃ d : Word, i = .wrCtrl d ∧ (d.getLsbD 0 = true ∨ d.getLsbD 1 = true)) := by
  cases e with
  | drops h => exact .inr (.inl ⟨rfl, h⟩)
  | aborts d hi ha => exact .inr (.inr ⟨rfl, d, hi, .inr ha⟩)
  | starts d hi _ hs => exact .inr (.inr ⟨s.startFrame_dropped, d, hi, .inl hs⟩)
  | _ => exact .inl rfl

theorem State.reservedAccess_dropped (s : State) (r : ReservedAccess) : (s.reservedAccess r).dropped = s.dropped := by
  unfold State.reservedAccess
  split_ifs <;> rfl

/-- Everything a step can do to DROPPED: keep it, clear it by a reset, set it by a dropped write, clear it by START or ABORT. -/
theorem step_dropped_cases {s t : State} (h : step s = .next t) :
    t.dropped = s.dropped ∨ (t.dropped = false ∧ ∃ rest, s.port = .reset :: rest) ∨
    ∃ T rest i, s.port = .txn T :: rest ∧ decode T = .ok i ∧
      ((t.dropped = true ∧ s.Drops i) ∨
       (t.dropped = false ∧ ∃ d : Word, i = .wrCtrl d ∧ (d.getLsbD 0 = true ∨ d.getLsbD 1 = true))) := by
  rcases step_cases h with ⟨_, rfl⟩ | ⟨rest, hp, rfl⟩ | ⟨T, rest, i, hp, hd, he⟩ | ⟨_, rest, r, _, _, rfl⟩
  · exact .inl rfl
  · exact .inr (.inl ⟨rfl, rest, hp⟩)
  · exact (exec_effect he).dropped_cases.imp id fun h => .inr ⟨T, rest, i, hp, hd, h⟩
  · exact .inl ((s.accept rest).reservedAccess_dropped r)

/-- Settles O44: what a dropped write does, then the two ways DROPPED can change. -/
theorem droppedIsSticky : Obligations.DroppedIsSticky := by
  refine ⟨fun s i h => exec_of_drops h, fun s t h h0 h1 => ?_, fun s t h h1 h0 => ?_⟩
  · rcases step_dropped_cases h with heq | ⟨hf, _⟩ | ⟨T, rest, i, hp, hd, ⟨_, hi⟩ | ⟨hf, _⟩⟩
    · cases h1.symm.trans (heq.trans h0)
    · cases h1.symm.trans hf
    · exact ⟨T, rest, i, hp, hd, hi⟩
    · cases h1.symm.trans hf
  · rcases step_dropped_cases h with heq | ⟨_, hreset⟩ | ⟨T, rest, i, hp, hd, ⟨ht, _⟩ | ⟨_, d, rfl, hbits⟩⟩
    · cases h0.symm.trans (heq.trans h1)
    · exact .inl hreset
    · cases h0.symm.trans ht
    · exact .inr ⟨T, rest, d, hp, hd, hbits⟩

/-! ## Configuration writes (R117, R119, R136-R140) -/

/-- WR_PAL's pattern (R96) with n at ADDR[4:2] holds the address of PALn (R92). -/
theorem ofWord_wrPal (n : Code) :
    Txn.ofWord (0x4000004000000000 ||| n.setWidth 64 <<< 34) = ⟨false, true, (Reg.pal n).offset.setWidth 30, 0⟩ := by
  revert n; decide

/-- Outside BUSY the gate lets the effect of a configuration write through. -/
theorem next_cfgWrite_open {s : State} (hs : s.frame ≠ .busy) (f : State → State) :
    (.next (s.cfgWrite f) : Host.Outcome State Fault Refusal) = .next (f s) :=
  congrArg _ (State.cfgWrite_open hs f)

theorem State.writeMode_eq_elim (s : State) (d : Word) :
    s.writeMode d = (Mode.ofBits (d.extractLsb' 0 2)).elim s s.setMode := by
  rcases s.writeMode_cases d with ⟨h, eq⟩ | ⟨m, h, eq⟩ <;> rw [eq] <;> exact (congrArg (·.elim s s.setMode) h).symm

/-- A MODE write outside BUSY, by the value of its field (R137). -/
theorem exec_wrMode_open {s : State} (hs : s.frame ≠ .busy) {d : Word} {b : BitVec 2} (hb : d.extractLsb' 0 2 = b) :
    exec (.wrMode d) s = .next ((Mode.ofBits b).elim s s.setMode) := by
  rw [← hb, ← State.writeMode_eq_elim]
  exact next_cfgWrite_open hs _

/-- Settles O22: in BUSY each write is a dropped one, else the gate is open. -/
theorem configurationWrites : Obligations.ConfigurationWrites := by
  refine ⟨decode_reg_word (r := .mode) (we := true) (by decide), decode_reg_word (r := .width) (we := true) (by decide),
    decode_reg_word (r := .height) (we := true) (by decide), decode_reg_word (r := .planes) (we := true) (by decide),
    decode_reg_word (r := .palLen) (we := true) (by decide),
    fun n => decode_reg_word (r := .pal n) (we := true) (ofWord_wrPal n), fun s d => ⟨fun hs => ?_, fun hs => ?_⟩⟩
  · have dropped : ∀ i : Instr, i.isConfigWrite = true → exec i s = .next s.drop := fun i hi => exec_of_drops (.inl ⟨hi, hs⟩)
    exact ⟨dropped _ rfl, dropped _ rfl, dropped _ rfl, dropped _ rfl, dropped _ rfl, fun _ => dropped _ rfl⟩
  · exact ⟨exec_wrMode_open hs, exec_wrMode_open hs, exec_wrMode_open hs, exec_wrMode_open hs,
      next_cfgWrite_open hs _, next_cfgWrite_open hs _, next_cfgWrite_open hs _, next_cfgWrite_open hs _,
      fun n => ⟨s.setPal n (colourField d), next_cfgWrite_open hs _, rfl, fun i => s.setPal_palEntry n i _⟩⟩

/-! ## WR_INTEN and the interrupt level (R45, R142) -/

theorem State.irq_iff (s : State) :
    s.irq = true ↔ (s.frame = .done ∧ s.inten.getLsbD 0 = true) ∨ (s.frame = .error ∧ s.inten.getLsbD 1 = true) := by
  simp only [State.irq, State.doneIe, State.errIe, Bool.or_eq_true, Bool.and_eq_true, beq_iff_eq]

theorem intenField_getLsbD (d : Word) {k : Nat} (hk : k < 2) : (intenField d).getLsbD k = d.getLsbD k := by
  simp [intenField, hk]

/-- Settles O23: the write stores its field in every STATE, and the level is that of the next state. -/
theorem interruptEnableWrite : Obligations.InterruptEnableWrite := by
  refine ⟨decode_reg_word (r := .inten) (we := true) (by decide), fun s d => ⟨s.setInten (intenField d), rfl, rfl, ?_⟩⟩
  rw [State.irq_iff, State.setInten_inten, State.setInten_frame, intenField_getLsbD d (by decide),
    intenField_getLsbD d (by decide)]

/-! ## CTRL writes (R130-R132) -/

/-- Settles O24: `exec_abort`, and what `abort()` assigns. -/
theorem abortClearsFrame : Obligations.AbortClearsFrame :=
  ⟨decode_reg_word (r := .ctrl) (we := true) (by decide), fun s _ ha => exec_abort ha s⟩

/-- Settles O25: the third branch of R130. -/
theorem controlWriteWithoutCommand : Obligations.ControlWriteWithoutCommand := fun _ _ hs ha =>
  (if_neg (Bool.eq_false_iff.1 ha)).trans (if_neg (Bool.eq_false_iff.1 hs))

theorem State.startFrame_of_palette {s : State} (hp : s.palLen.toNat ≠ s.mode.romN) :
    s.startFrame = s.clearFrame.raiseError .invalidPalette .none 0 0 0 := by
  rcases s.startFrame_cases with ⟨_, eq⟩ | ⟨h, _⟩ | ⟨h, _⟩ | ⟨⟨h, _⟩, _⟩
  · exact eq
  all_goals exact absurd h hp

theorem State.startFrame_of_width {s : State} (hp : s.palLen.toNat = s.mode.romN)
    (hw : s.width.toNat % s.mode.romPack ≠ 0) :
    s.startFrame = s.clearFrame.raiseError .invalidImageShape .widthAlign 0 0 0 := by
  rcases s.startFrame_cases with ⟨h, _⟩ | ⟨_, _, eq⟩ | ⟨_, h, _⟩ | ⟨⟨_, h, _⟩, _⟩
  · exact absurd hp h
  · exact eq
  all_goals exact absurd h hw

theorem State.startFrame_of_capacity {s : State} (hp : s.palLen.toNat = s.mode.romN)
    (hw : s.width.toNat % s.mode.romPack = 0) (hc : s.outbufBytes.val < s.frameBytes) :
    s.startFrame = s.clearFrame.raiseError .invalidImageShape .capacity 0 0 0 := by
  rcases s.startFrame_cases with ⟨h, _⟩ | ⟨_, h, _⟩ | ⟨_, _, _, eq⟩ | ⟨⟨_, _, h⟩, _⟩
  · exact absurd hp h
  · exact absurd hw h
  · exact eq
  · exact absurd h (not_le.2 hc)

/-- Settles O26: a START is `start()`, and each of its outcomes has a lemma. -/
theorem startChecksThenOpensFrame : Obligations.StartChecksThenOpensFrame := by
  intro s d ha hs len cleared
  have start : exec (.wrCtrl d) s = .next s.startFrame := exec_start ha hs s
  refine ⟨fun hp => ?_, fun hp hw => ?_, fun hp hw hc => ?_, fun hp hw hc => ?_⟩
  · rw [start, State.startFrame_of_palette hp]; rfl
  · rw [start, State.startFrame_of_width hp hw]; rfl
  · rw [start, State.startFrame_of_capacity hp hw hc]; rfl
  · refine ⟨s.clearFrame.openFrame s.frameBytes, ?_, rfl, State.frameBytes_toNat hc, Memory.read_cleared, rfl⟩
    rw [start, State.startFrame_of_accepts ⟨hp, hw, hc⟩]

/-! ## STATUS, field by field (R25, R145) -/

section StatusWord

open BitVec

variable (s : State)

theorem State.statusWord_frame : s.statusWord.extractLsb' 0 2 = s.frame.code := extractLsb'_append_eq_right

theorem State.statusWord_dropped : s.statusWord.getLsbD 2 = s.dropped := by
  rw [State.statusWord, getLsbD_append, if_neg (by decide), getLsbD_append, if_pos (by decide)]
  exact getLsbD_ofBool ..

theorem State.statusWord_irq : s.statusWord.getLsbD 3 = s.irq := by
  rw [State.statusWord, getLsbD_append, if_neg (by decide), getLsbD_append, if_neg (by decide), getLsbD_append,
    if_pos (by decide)]
  exact getLsbD_ofBool ..

/-- The three fields below ERR_KIND taken off: STATE, DROPPED and IRQ. -/
theorem State.statusWord_above_irq (k n : Nat) :
    s.statusWord.extractLsb' (4 + k) n = (0#20 ++ s.errDetail.code ++ s.errKind.code).extractLsb' k n := by
  rw [State.statusWord, extractLsb'_append_eq_of_le (by omega), extractLsb'_append_eq_of_le (by omega),
    extractLsb'_append_eq_of_le (by omega)]
  congr 1
  omega

theorem State.statusWord_errKind : s.statusWord.extractLsb' 4 4 = s.errKind.code :=
  (s.statusWord_above_irq 0 4).trans extractLsb'_append_eq_right

theorem State.statusWord_errDetail : s.statusWord.extractLsb' 8 4 = s.errDetail.code :=
  (s.statusWord_above_irq 4 4).trans <| (extractLsb'_append_eq_of_le (by decide)).trans extractLsb'_append_eq_right

theorem State.statusWord_undefined : s.statusWord.extractLsb' 12 20 = 0 :=
  (s.statusWord_above_irq 8 20).trans <| (extractLsb'_append_eq_of_le (by decide)).trans extractLsb'_append_eq_left

end StatusWord

/-- Settles O28: the response is STATUS, whose fields are read off one by one. -/
theorem statusRead : Obligations.StatusRead := by
  refine ⟨decode_reg_word (r := .status) (we := false) (by decide), fun s => ⟨s.statusWord, exec_reg_read .status 0 s,
    s.statusWord_frame.trans ?_, s.statusWord_dropped, ?_, s.statusWord_errKind.trans ?_, s.statusWord_errDetail.trans ?_,
    s.statusWord_undefined⟩⟩
  · cases s.frame <;> rfl
  · rw [s.statusWord_irq, s.irq_iff]
  · cases s.errKind <;> rfl
  · cases s.errDetail <;> rfl

/-! ## Reads of results, diagnostics and the position (R151-R155) -/

/-- A register that holds `v` is read as `v`. -/
theorem exec_reg_read_of_eq {r : Reg} {s : State} {v : Word} (h : s.readReg r = v) :
    exec (r.operation false 0) s = .next (s.respond v) := by
  rw [exec_reg_read, h]

theorem State.readReg_errPos_eq_zero {s : State} (hx : s.errX = 0) (hy : s.errY = 0) : s.readReg .errPos = 0 := by
  rw [State.readReg, hx, hy]
  rfl

theorem State.readReg_errRgb_eq_zero {s : State} (h : s.errRgb = 0) : s.readReg .errRgb = 0 := by
  rw [State.readReg, h]
  rfl

/-- Settles O29: each read answers its register, which the invariant makes 0 in the corner cases. -/
theorem resultAndDiagnosticReads : Obligations.ResultAndDiagnosticReads := by
  refine ⟨decode_reg_word (r := .outLen) (we := false) (by decide), decode_reg_word (r := .errPos) (we := false) (by decide),
    decode_reg_word (r := .errRgb) (we := false) (by decide), fun s => ⟨exec_reg_read .outLen 0 s, exec_reg_read .errPos 0 s,
    exec_reg_read .errRgb 0 s, fun h => ⟨fun hf => ?_, h.busy_length, fun hf => ?_, fun hk => ?_⟩⟩⟩
  · exact exec_reg_read_of_eq (r := .outLen) (h.no_result hf)
  · obtain ⟨hx, hy⟩ := h.error_position hf
    exact exec_reg_read_of_eq (r := .errPos) (State.readReg_errPos_eq_zero hx hy)
  · exact exec_reg_read_of_eq (r := .errRgb) (State.readReg_errRgb_eq_zero (h.error_colour hk))

/-- Settles O30. -/
theorem positionAndAccumulatorReads : Obligations.PositionAndAccumulatorReads :=
  ⟨decode_reg_word (r := .pos) (we := false) (by decide), decode_reg_word (r := .acc) (we := false) (by decide),
    fun s => ⟨exec_reg_read .pos 0 s, exec_reg_read .acc 0 s⟩⟩

/-- Settles O53: item 2 of R50 over the frame gives what the two registers hold. -/
theorem doneReadsTheFramesShape : Obligations.DoneReadsTheFramesShape := by
  intro s f h hs
  obtain ⟨g, hf, hy, hx, hlen, _⟩ := h.item2 hs
  have hpos : s.readReg .pos = g.height ++ 0#16 := by rw [State.readReg, hy, hx]; rfl
  exact ⟨g, hf, exec_reg_read_of_eq (r := .pos) hpos, s.outLen, exec_reg_read .outLen 0 s, hlen⟩

/-! ## The OUT space (R157, R163) -/

/-- A word with SP = 1 whose ADDR and DATA are 0, with any address and DATA, is the OUT operation there. -/
theorem decode_out_word {p : TxnWord} {we : Bool} (hp : Txn.ofWord p = ⟨true, we, 0, 0⟩) (a : Addr) (d : Word) :
    decode (p ||| a.setWidth 64 <<< 32 ||| d.setWidth 64) = .ok (if we then .wrOut a d else .rdOut a) := by
  have haddr : Txn.ofWord (p ||| a.setWidth 64 <<< 32) = ⟨true, we, a, 0⟩ := by
    rw [Txn.ofWord_or_addr p a (congrArg Txn.addr hp), hp]
  rw [decode, Txn.ofWord_or_data_of_fields haddr]
  exact Txn.decode_out we a d

theorem State.readOut_of_lt {s : State} {a : Addr} (h : a.toNat < s.outbufBytes.val) :
    s.readOut a = (s.outbuf.read a.toNat).setWidth 32 := if_pos h

theorem State.readOut_of_le {s : State} {a : Addr} (h : s.outbufBytes.val ≤ a.toNat) : s.readOut a = 0 :=
  if_neg (not_lt.2 h)

/-- Settles O32: RD_OUT answers `State.readOut`, in its two cases. -/
theorem outputReads : Obligations.OutputReads :=
  ⟨decode_out_word (we := false) (by decide), fun s _ =>
    ⟨fun h => congrArg (Host.Outcome.next <| s.respond ·) (State.readOut_of_lt h),
      fun h => congrArg (Host.Outcome.next <| s.respond ·) (State.readOut_of_le h)⟩⟩

/-! ## Accesses with no effect (R160-R174) -/

theorem exec_readOnly_write {r : Reg} (hr : r.isReadOnly = true) (d : Word) (s : State) :
    exec (r.operation true d) s = .next s := by
  cases r with
  | status | outLen | errPos | errRgb | pos | acc | caps => rfl
  | _ => cases hr

theorem exec_writeOnly_read {r : Reg} (hr : r.isWriteOnly = true) (s : State) :
    exec (r.operation false 0) s = .next (s.respond 0) := by
  apply exec_reg_read_of_eq
  cases r with
  | ctrl | pixel | rowEnd | frameEnd => rfl
  | _ => cases hr

/-- Settles O33: the seven registers are read-only, and WR_OUT has no effect at any address. -/
theorem readOnlyWritesAreIgnored : Obligations.ReadOnlyWritesAreIgnored :=
  ⟨decode_reg_word (r := .status) (we := true) (by decide), decode_reg_word (r := .outLen) (we := true) (by decide),
    decode_reg_word (r := .errPos) (we := true) (by decide), decode_reg_word (r := .errRgb) (we := true) (by decide),
    decode_reg_word (r := .pos) (we := true) (by decide), decode_reg_word (r := .acc) (we := true) (by decide),
    decode_reg_word (r := .caps) (we := true) (by decide), decode_out_word (we := true) (by decide),
    fun s d _ => ⟨exec_readOnly_write (r := .status) rfl d s, exec_readOnly_write (r := .outLen) rfl d s,
      exec_readOnly_write (r := .errPos) rfl d s, exec_readOnly_write (r := .errRgb) rfl d s,
      exec_readOnly_write (r := .pos) rfl d s, exec_readOnly_write (r := .acc) rfl d s,
      exec_readOnly_write (r := .caps) rfl d s, rfl⟩⟩

/-- Settles O34: the four registers are write-only, and such a register reads 0. -/
theorem writeOnlyReadsAnswerZero : Obligations.WriteOnlyReadsAnswerZero :=
  ⟨decode_reg_word (r := .ctrl) (we := false) (by decide), decode_reg_word (r := .pixel) (we := false) (by decide),
    decode_reg_word (r := .rowEnd) (we := false) (by decide), decode_reg_word (r := .frameEnd) (we := false) (by decide),
    fun s => ⟨exec_writeOnly_read (r := .ctrl) rfl s, exec_writeOnly_read (r := .pixel) rfl s,
      exec_writeOnly_read (r := .rowEnd) rfl s, exec_writeOnly_read (r := .frameEnd) rfl s⟩⟩

end Sys2Proof.Machine
end

section
/-! PROOFS, 42_pixel_packing.md: the stream writes (R180, R190, R195), the writer's offsets (R185), and the bytes that the
accumulators make (R181-R184). -/

namespace Sys2Proof.Machine

/-! ## The writer's offsets (R185) -/

/-- Settles O14: the index lies in its plane, and OUT_LEN is the bytes of one or of two planes, at most the capacity. -/
theorem writerStaysBelowOutLen : Obligations.WriterStaysBelowOutLen := by
  intro s h hs hy hx
  have hidx : s.byteIndex < s.planeBytes := h.byteIndex_lt hs hy hx
  have hlen : s.outLen.toNat = s.mode.romPlanes * s.planeBytes := h.busy_length hs
  obtain ⟨_, _, hcap⟩ := h.busy_accepts hs
  have hcap : s.outLen.toNat ≤ s.outbufBytes.val := (h.busy_length hs).trans_le hcap
  rcases s.mode.romPlanes_cases with hp | hp <;> rw [hp] at hlen ⊢ <;> omega

/-- In a running frame of the invariant both addresses of the writer exist. -/
theorem State.Inv.writer_inside {s : State} (h : s.Inv) (hs : s.frame = .busy) (hy : s.y ≠ s.height) (hx : s.x ≠ s.width) :
    s.byteIndex < s.outbufBytes.val ∧ (s.mode.romPlanes = 2 → s.planeBytes + s.byteIndex < s.outbufBytes.val) := by
  obtain ⟨_, h0, h1, hcap⟩ := writerStaysBelowOutLen s h hs hy hx
  exact ⟨h0.trans_le hcap, fun hp => (h1 hp).trans_le hcap⟩

/-! ## WR_PIXEL (R180) -/

theorem exec_wrPixel_tooManyRows {s : State} (hs : s.frame = .busy) (hy : s.y = s.height) (d : Word) :
    exec (.wrPixel d) s = .next (s.raiseError .invalidImageShape .tooManyRows s.x s.y 0) :=
  (if_neg (not_not.2 hs)).trans (if_pos hy)

theorem exec_wrPixel_rowTooLong {s : State} (hs : s.frame = .busy) (hy : s.y ≠ s.height) (hx : s.x = s.width) (d : Word) :
    exec (.wrPixel d) s = .next (s.raiseError .invalidImageShape .rowTooLong s.x s.y 0) :=
  (if_neg (not_not.2 hs)).trans <| (if_neg hy).trans (if_pos hx)

theorem exec_wrPixel_unknown {s : State} (hs : s.frame = .busy) (hy : s.y ≠ s.height) (hx : s.x ≠ s.width) {d : Word}
    (hc : s.classify (pixelKey d) = none) :
    exec (.wrPixel d) s = .next (s.raiseError .unknownColor .none s.x s.y (pixelKey d)) := by
  simp only [exec, execWrPixel, hs, hy, hx, hc, ne_eq, not_true_eq_false, if_false]

theorem exec_wrPixel_accepted {s : State} (hs : s.frame = .busy) (hy : s.y ≠ s.height) (hx : s.x ≠ s.width) {d : Word}
    {c : Code} (hc : s.classify (pixelKey d) = some c) : exec (.wrPixel d) s = s.acceptPixel c := by
  simp only [exec, execWrPixel, hs, hy, hx, hc, ne_eq, not_true_eq_false, if_false]

theorem State.completesByte_iff (s : State) :
    s.completesByte = true ↔ s.x.toNat % s.mode.romPack = s.mode.romPack - 1 := by
  rw [State.completesByte, beq_iff_eq]

/-- Settles O36: a dropped write, each failing check, and the accepted pixel, whose bytes `State.outbufAfter_read` gives. -/
theorem pixelWrite : Obligations.PixelWrite := by
  refine ⟨decode_reg_word (r := .pixel) (we := true) (by decide), fun s d => ⟨fun hs => exec_of_drops (.inr ⟨rfl, hs⟩),
    fun hs hy => exec_wrPixel_tooManyRows hs hy d, fun hs hy hx => exec_wrPixel_rowTooLong hs hy hx d,
    fun hs hy hx hno => exec_wrPixel_unknown hs hy hx ((s.classify_eq_none_iff _).2 hno), ?_⟩⟩
  intro c hs hy hx hc pack plane idx a0 a1
  have haccept : exec (.wrPixel d) s = s.acceptPixel c := exec_wrPixel_accepted hs hy hx hc
  refine ⟨fun hmid => ?_, fun hlast h0 h1 => ?_⟩
  · have hcb : s.completesByte ≠ true := mt s.completesByte_iff.1 hmid
    rw [haccept, State.acceptPixel_next c fun h => absurd h hcb, State.outbufAfter, if_neg hcb]
    rfl
  · have hcb : s.completesByte = true := s.completesByte_iff.2 hlast
    refine ⟨_, haccept.trans (State.acceptPixel_next c fun _ => ⟨h0, h1⟩), rfl, s.outbufAfter_fill c,
      fun h => State.outbufAfter_wf h c, fun a => ?_⟩
    have hread := s.outbufAfter_read c a
    simp only [hcb, true_and] at hread
    exact hread

/-- From the invariant every operation answers a next state: a PIXEL's addresses exist, and nothing else can stop. -/
theorem State.Inv.exec_next {s : State} (h : s.Inv) (i : Instr) : ∃ t, exec i s = .next t := by
  by_cases hi : ∃ d, i = .wrPixel d
  · obtain ⟨d, rfl⟩ := hi
    by_cases hs : s.frame = .busy
    · by_cases hy : s.y = s.height
      · exact ⟨_, exec_wrPixel_tooManyRows hs hy d⟩
      · by_cases hx : s.x = s.width
        · exact ⟨_, exec_wrPixel_rowTooLong hs hy hx d⟩
        · cases hc : s.classify (pixelKey d) with
          | none => exact ⟨_, exec_wrPixel_unknown hs hy hx hc⟩
          | some c =>
            exact ⟨_, (exec_wrPixel_accepted hs hy hx hc).trans (State.acceptPixel_next c fun _ => h.writer_inside hs hy hx)⟩
    · exact ⟨_, exec_of_drops (.inr ⟨rfl, hs⟩)⟩
  · exact exec_next_of_ne_pixel (fun d e => hi ⟨d, e⟩) s

/-- Settles O12: an idle step, a reset event, an operation or a reserved access. -/
theorem invariantStatesNeverStop : Obligations.InvariantStatesNeverStop := by
  intro s h
  cases hp : s.port with
  | nil => exact ⟨s, step_nothing hp⟩
  | cons e rest =>
    rw [step_event hp]
    cases e with
    | reset => exact ⟨_, rfl⟩
    | txn T =>
      cases hd : decode T with
      | ok i =>
        obtain ⟨t, ht⟩ := (h.accept rest).exec_next i
        exact ⟨t, (perform_ok hd _).trans ht⟩
      | error r => exact ⟨_, perform_error hd _⟩

/-! ## WR_ROW_END (R190) and WR_FRAME_END (R195) -/

theorem exec_rowEnd_accepted {s : State} (hs : s.frame = .busy) (hy : s.y ≠ s.height) (hx : s.x = s.width) (d : Word) :
    exec (.wrRowEnd d) s = .next s.endRow :=
  (if_neg (not_not.2 hs)).trans <| (if_neg hy).trans (if_neg (not_not.2 hx))

/-- Settles O37: a dropped write, the two checks in their order, and the accepted row. -/
theorem rowEndWrite : Obligations.RowEndWrite :=
  ⟨decode_reg_word (r := .rowEnd) (we := true) (by decide), fun _ d =>
    ⟨fun hs => exec_of_drops (.inr ⟨rfl, hs⟩),
      fun hs hy => (if_neg (not_not.2 hs)).trans (if_pos hy),
      fun hs hy hx => (if_neg (not_not.2 hs)).trans <| (if_neg hy).trans (if_pos hx),
      fun hs hy hx => exec_rowEnd_accepted hs hy hx d⟩⟩

/-- Settles O38: a dropped write, the one check, and the accepted end of the frame. -/
theorem frameEndWrite : Obligations.FrameEndWrite :=
  ⟨decode_reg_word (r := .frameEnd) (we := true) (by decide), fun _ d =>
    ⟨fun hs => exec_of_drops (.inr ⟨rfl, hs⟩),
      fun hs hy => (if_neg (not_not.2 hs)).trans (if_pos hy),
      fun hs hy => exec_frameEnd_accepted hs hy d⟩⟩

/-! ## The bytes of the accumulators (R181-R184) -/

/-- In a mode of one plane a byte holds two fields of four bits (R112). -/
theorem Mode.romPack_romFb_of_ne_rwb {m : Mode} (hm : m ≠ .rwb) : m.romPack = 2 ∧ m.romFb = 4 := by
  cases m with
  | rwb => exact absurd rfl hm
  | sevenColour | rwb4 => decide

/-- Two fields of four bits make the byte: what the accumulator held before is shifted out (R182, R184). -/
theorem shiftIn_nibbles {m : Mode} (hm : m ≠ .rwb) {ce co : Code} (he : ce.toNat < m.romN) (ho : co.toNat < m.romN)
    (acc : Byte) :
    shiftIn (shiftIn acc m.romFb (m.romField0 ce)) m.romFb (m.romField0 co) =
      (m.nibbleOf ce <<< 4) ||| m.nibbleOf co := by
  have old : acc <<< (4 + 4) = 0 := BitVec.shiftLeft_eq_zero (by decide)
  obtain ⟨_, hfb⟩ := Mode.romPack_romFb_of_ne_rwb hm
  obtain ⟨h0e, _⟩ := Mode.romFields_of_ne_rwb hm ce he
  obtain ⟨h0o, _⟩ := Mode.romFields_of_ne_rwb hm co ho
  rw [shiftIn, shiftIn, hfb, h0e, h0o, BitVec.shiftLeft_or_distrib, ← BitVec.shiftLeft_add, old]
  exact congrArg (· ||| m.nibbleOf co) BitVec.zero_or

/-- Settles O39: ACC0 by `shiftIn_nibbles`, and ACC1 is written only in a mode of two planes. -/
theorem nibbleByteForgetsOldBits : Obligations.NibbleByteForgetsOldBits := by
  intro s ce co hm he ho
  have acc1_kept : ∀ (t : State) (c : Code), t.mode = s.mode → t.nextAcc1 c = t.acc1 := fun t c ht =>
    if_neg (by rw [ht, Mode.romPlanes_of_ne_rwb hm]; decide)
  exact ⟨shiftIn_nibbles hm he ho s.acc0, (acc1_kept (s.accumulate ce) co rfl).trans (acc1_kept s ce rfl)⟩

/-- Fields of one bit: the code shifted in `k` places before the last one is at bit `k`, whatever the accumulator held. -/
theorem foldl_shiftIn_getLsbD {field : Code → BitVec 4} {bit : Code → Bool} {cs : List Code}
    (hbit : ∀ c ∈ cs, field c = (BitVec.ofBool (bit c)).setWidth 4) {k : Nat} (hk : k < 8) {c : Code}
    (hc : cs.reverse[k]? = some c) (acc : Byte) :
    (cs.foldl (fun a c => shiftIn a 1 (field c)) acc).getLsbD k = bit c := by
  induction cs using List.reverseRecOn generalizing k with
  | nil => simp at hc
  | append_singleton cs d ih =>
    rw [List.foldl_append, List.foldl_cons, List.foldl_nil, shiftIn_getLsbD, hbit d (by simp)]
    rw [List.reverse_append, List.reverse_singleton, List.singleton_append] at hc
    cases k with
    | zero =>
      obtain rfl : d = c := by simpa using hc
      simp
    | succ k =>
      have hrest := ih (fun c hmem => hbit c (by simp [hmem])) (Nat.lt_of_succ_lt hk) (by simpa using hc)
      simpa [hk] using hrest

/-- The `j`-th of eight one-bit fields is at bit 7 - j: the first pixel at bit 7 (R183). -/
theorem foldl_shiftIn_eight {field : Code → BitVec 4} {bit : Code → Bool} {cs : List Code} (hlen : cs.length = 8)
    (hbit : ∀ c ∈ cs, field c = (BitVec.ofBool (bit c)).setWidth 4) {j : Nat} {c : Code} (hc : cs[j]? = some c) (acc : Byte) :
    (cs.foldl (fun a c => shiftIn a 1 (field c)) acc).getLsbD (7 - j) = bit c := by
  obtain ⟨hj, _⟩ := List.getElem?_eq_some_iff.1 hc
  refine foldl_shiftIn_getLsbD hbit (by omega) ?_ acc
  rw [List.getElem?_reverse (by omega), ← hc]
  congr 1
  omega

/-- In RWB each accumulator takes the fields of its own plane (R181). -/
theorem State.foldl_accumulate_rwb (cs : List Code) : ∀ s : State, s.mode = .rwb →
    (cs.foldl State.accumulate s).acc0 = cs.foldl (fun a c => shiftIn a 1 (Mode.romField0 .rwb c)) s.acc0 ∧
    (cs.foldl State.accumulate s).acc1 = cs.foldl (fun a c => shiftIn a 1 (Mode.romField1 .rwb c)) s.acc1 := by
  induction cs with
  | nil => exact fun _ _ => ⟨rfl, rfl⟩
  | cons c cs ih =>
    intro s hm
    have h0 : s.nextAcc0 c = shiftIn s.acc0 1 (Mode.romField0 .rwb c) := by rw [State.nextAcc0, hm]; rfl
    have h1 : s.nextAcc1 c = shiftIn s.acc1 1 (Mode.romField1 .rwb c) := by rw [State.nextAcc1, hm]; rfl
    simpa only [List.foldl_cons, State.accumulate_acc0, State.accumulate_acc1, h0, h1] using ih (s.accumulate c) hm

/-- Settles O40: each accumulator is a fold of one-bit fields, and eight of them leave nothing of what it held. -/
theorem planeBytesForgetOldBits : Obligations.PlaneBytesForgetOldBits := by
  intro s cs hm hlen hcs j hj
  obtain ⟨h0, h1⟩ := State.foldl_accumulate_rwb cs s hm
  have hc : cs[j]? = some (cs.getD j 0) := by
    rw [List.getD_eq_getElem _ _ (by omega), List.getElem?_eq_getElem]
  rw [h0, h1]
  exact ⟨foldl_shiftIn_eight hlen (fun c hmem => (Mode.romFields_rwb c (hcs c hmem)).1) hc _,
    foldl_shiftIn_eight hlen (fun c hmem => (Mode.romFields_rwb c (hcs c hmem)).2) hc _⟩

end Sys2Proof.Machine
end

section
/-! PROOFS, 42_pixel_packing.md: a whole frame (R186). Of the codes accepted so far, the finished bytes of each plane stand in OUTBUF
and those of the unfinished byte in the plane's accumulator (`State.PackedAt`); each stream write moves this on, and reads between
them do not disturb it (`Drives`). -/

namespace Sys2Proof.Machine

/-! ## The codes of a byte (R185) -/

/-- The codes of byte `j` of a plane, `pack` codes to a byte: fewer where the byte is unfinished. -/
def byteCodes (pack : Nat) (codes : List Code) (j : Nat) : List Code := (codes.drop (j * pack)).take pack

theorem byteCodes_append {pack j : Nat} {codes : List Code} (hj : j < codes.length / pack) (c : Code) :
    byteCodes pack (codes ++ [c]) j = byteCodes pack codes j := by
  have hend : (j + 1) * pack ≤ codes.length := (Nat.mul_le_mul_right _ hj).trans (Nat.div_mul_le_self _ _)
  rw [Nat.add_one_mul] at hend
  rw [byteCodes, List.drop_append_of_le_length (by omega), List.take_append_of_le_length (by rw [List.length_drop]; omega)]
  rfl

/-- A further code joins those of the unfinished byte. -/
theorem byteCodes_append_unfinished {pack : Nat} (hp : 0 < pack) (codes : List Code) (c : Code) :
    byteCodes pack (codes ++ [c]) (codes.length / pack) = byteCodes pack codes (codes.length / pack) ++ [c] := by
  have hdiv := Nat.div_add_mod' codes.length pack
  have hmod := Nat.mod_lt codes.length hp
  rw [byteCodes, byteCodes, List.drop_append_of_le_length (by omega), List.take_of_length_le, List.take_of_length_le]
  · rw [List.length_drop]; omega
  · rw [List.length_append, List.length_drop, List.length_singleton]; omega

theorem byteCodes_getElem? {pack i : Nat} (hi : i < pack) (codes : List Code) (j : Nat) :
    (byteCodes pack codes j)[i]? = codes[j * pack + i]? := by
  rw [byteCodes, List.getElem?_take_of_lt hi, List.getElem?_drop]

/-- Counting on by one: the last place of a byte, or one before it. -/
theorem div_mod_add_one_cases (n : Nat) {p : Nat} (hp : 0 < p) :
    (n % p + 1 = p ∧ (n + 1) % p = 0 ∧ (n + 1) / p = n / p + 1) ∨
    (n % p + 1 < p ∧ (n + 1) % p = n % p + 1 ∧ (n + 1) / p = n / p) := by
  have hn := Nat.mod_add_div n p
  have hlt : n % p + 1 ≤ p := Nat.mod_lt n hp
  rcases hlt.eq_or_lt with h | h
  · obtain ⟨hd, hm⟩ := (Nat.div_mod_unique hp).2 (⟨by rw [Nat.mul_add_one]; omega, hp⟩ : 0 + p * (n / p + 1) = n + 1 ∧ 0 < p)
    exact .inl ⟨h, hm, hd⟩
  · obtain ⟨hd, hm⟩ := (Nat.div_mod_unique hp).2 (⟨by omega, h⟩ : n % p + 1 + p * (n / p) = n + 1 ∧ n % p + 1 < p)
    exact .inr ⟨h, hm, hd⟩

/-! ## One plane, packed so far -/

/-- One plane after `codes`: its finished bytes are in OUTBUF, read by `read`, and the low bits of its accumulator are the unfinished
byte's. -/
structure PlanePacked (m : Mode) (field : Code → BitVec 4) (codes : List Code) (acc : Byte) (read : Nat → Byte) : Prop where
  finished : ∀ j < codes.length / m.romPack, read j = packedCodes m.romFb field (byteCodes m.romPack codes j)
  unfinished : ∀ k < codes.length % m.romPack * m.romFb,
    acc.getLsbD k = (packedCodes m.romFb field (byteCodes m.romPack codes (codes.length / m.romPack))).getLsbD k

theorem PlanePacked.nil (m : Mode) (field : Code → BitVec 4) (acc : Byte) (read : Nat → Byte) :
    PlanePacked m field [] acc read where
  finished := by simp
  unfinished := by simp

/-- Where no byte is unfinished the accumulator does not matter. -/
theorem PlanePacked.with_acc {m : Mode} {field : Code → BitVec 4} {codes : List Code} {acc : Byte} {read : Nat → Byte}
    (h : PlanePacked m field codes acc read) (hend : codes.length % m.romPack = 0) (acc' : Byte) :
    PlanePacked m field codes acc' read where
  finished := h.finished
  unfinished := by simp [hend]

/-- One more code: shifted into the accumulator, which is stored where it completes the byte. -/
theorem PlanePacked.snoc {m : Mode} {field : Code → BitVec 4} {codes : List Code} {acc : Byte} {read read' : Nat → Byte} {c : Code}
    (h : PlanePacked m field codes acc read) (hkeep : ∀ j < codes.length / m.romPack, read' j = read j)
    (hstore : codes.length % m.romPack + 1 = m.romPack →
      read' (codes.length / m.romPack) = shiftIn acc m.romFb (field c)) :
    PlanePacked m field (codes ++ [c]) (shiftIn acc m.romFb (field c)) read' := by
  have hlen : (codes ++ [c]).length = codes.length + 1 := by simp
  have old : ∀ j < codes.length / m.romPack,
      read' j = packedCodes m.romFb field (byteCodes m.romPack (codes ++ [c]) j) := fun j hj => by
    rw [hkeep j hj, h.finished j hj, byteCodes_append hj]
  have shifted : ∀ k < (codes.length % m.romPack + 1) * m.romFb, (shiftIn acc m.romFb (field c)).getLsbD k =
      (packedCodes m.romFb field (byteCodes m.romPack (codes ++ [c]) (codes.length / m.romPack))).getLsbD k := by
    rw [byteCodes_append_unfinished m.romPack_pos, packedCodes_append]
    exact shiftIn_agree (field c) h.unfinished
  rcases div_mod_add_one_cases codes.length m.romPack_pos with ⟨hlast, hmod, hdiv⟩ | ⟨_, hmod, hdiv⟩
  · refine ⟨fun j hj => ?_, fun k hk => ?_⟩
    · rw [hlen, hdiv] at hj
      rcases Nat.lt_succ_iff_lt_or_eq.1 hj with hj | rfl
      · exact old j hj
      · rw [hlast, m.romPack_mul_romFb] at shifted
        exact (hstore hlast).trans (BitVec.eq_of_getLsbD_eq shifted)
    · simp [hlen, hmod] at hk
  · refine ⟨fun j hj => old j (by rwa [hlen, hdiv] at hj), fun k hk => ?_⟩
    rw [hlen, hdiv]
    exact shifted k (by rwa [hlen, hmod] at hk)

/-! ## A running frame, packed so far -/

/-- An accepted pixel leaves every byte but those at the writer's offsets. -/
theorem State.outbufAfter_read_of_ne {s : State} {c : Code} {a : Nat} (h0 : a ≠ s.byteIndex)
    (h1 : a ≠ s.planeBytes + s.byteIndex) : (s.outbufAfter c).read a = s.outbuf.read a := by
  by_contra hne
  rcases State.outbufAfter_changed hne with ⟨_, ha | ⟨_, ha⟩⟩
  · exact h0 ha
  · exact h1 ha

section SameConfig

variable {s u : State} (h : s.SameConfig u)
include h

theorem State.SameConfig.classify (key : Key) : u.classify key = s.classify key := by
  obtain ⟨hm, _, _, _, _, hpal⟩ := h
  have hentry : u.palEntry = s.palEntry := by
    funext n
    simp only [State.palEntry, hpal]
  rw [State.classify, hm, hentry]
  rfl

theorem State.SameConfig.planeBytes : u.planeBytes = s.planeBytes := by
  obtain ⟨hm, hw, hh, _⟩ := h
  rw [State.planeBytes, hm, hw, hh]
  rfl

theorem State.SameConfig.frameBytes : u.frameBytes = s.frameBytes := by
  have ⟨hm, _⟩ := h
  rw [State.frameBytes, h.planeBytes, hm]
  rfl

end SameConfig

/-- `u` runs the frame that `s` configures, at column `x` of row `y`, with the pixels before that packed; `codes` are their codes. -/
structure State.PackedAt (s : State) (codes : List Code) (y x : Nat) (u : State) : Prop where
  busy : u.frame = .busy
  inv : u.Inv
  config : s.SameConfig u
  row : u.y.toNat = y
  column : u.x.toNat = x
  count : codes.length = y * s.width.toNat + x
  plane0 : PlanePacked s.mode s.mode.romField0 codes u.acc0 u.outbuf.read
  plane1 : s.mode.romPlanes = 2 → PlanePacked s.mode s.mode.romField1 codes u.acc1 fun j => u.outbuf.read (s.planeBytes + j)

section PackedAt

variable {s u : State} {codes : List Code} {y x : Nat}

theorem State.PackedAt.byteIndex (h : s.PackedAt codes y x u) : u.byteIndex = codes.length / s.mode.romPack := by
  obtain ⟨hm, hw, _⟩ := h.config
  rw [State.byteIndex, h.row, h.column, hw, hm, h.count]

theorem State.PackedAt.width_mod (h : s.PackedAt codes y x u) : s.width.toNat % s.mode.romPack = 0 := by
  obtain ⟨_, hw, _⟩ := h.inv.busy_accepts h.busy
  obtain ⟨hm, hwidth, _⟩ := h.config
  rwa [hm, hwidth] at hw

/-- The pixel at column `x` completes a byte where it is the last code of one, as rows are whole bytes. -/
theorem State.PackedAt.completesByte_iff (h : s.PackedAt codes y x u) :
    u.completesByte = true ↔ codes.length % s.mode.romPack + 1 = s.mode.romPack := by
  obtain ⟨hm, _, _⟩ := h.config
  have hrow : y * s.width.toNat % s.mode.romPack = 0 := Nat.mod_eq_zero_of_dvd
    ((Nat.dvd_of_mod_eq_zero h.width_mod).mul_left y)
  have hmod : codes.length % s.mode.romPack = x % s.mode.romPack := by
    rw [h.count, Nat.add_mod, hrow, Nat.zero_add, Nat.mod_mod]
  have hpos := s.mode.romPack_pos
  rw [State.completesByte_iff, h.column, hm, hmod]
  omega

theorem State.PackedAt.y_ne_height (h : s.PackedAt codes y x u) (hy : y < s.height.toNat) : u.y ≠ u.height := by
  obtain ⟨_, _, hh, _⟩ := h.config
  intro e
  rw [← h.row, e, hh] at hy
  exact lt_irrefl _ hy

theorem State.PackedAt.x_ne_width (h : s.PackedAt codes y x u) (hx : x < s.width.toNat) : u.x ≠ u.width := by
  obtain ⟨_, hw, _⟩ := h.config
  intro e
  rw [← h.column, e, hw] at hx
  exact lt_irrefl _ hx

/-- An accepted pixel packs its first field into plane 0. -/
theorem State.PackedAt.pixel_plane0 (h : s.PackedAt codes y x u) (hidx : u.byteIndex < u.planeBytes) (c : Code) :
    PlanePacked s.mode s.mode.romField0 (codes ++ [c]) (u.nextAcc0 c) (u.outbufAfter c).read := by
  have ⟨hm, _⟩ := h.config
  have hnext : u.nextAcc0 c = shiftIn u.acc0 s.mode.romFb (s.mode.romField0 c) := by rw [State.nextAcc0, hm]
  rw [hnext]
  refine h.plane0.snoc (fun j hj => ?_) fun hlast => ?_
  · rw [← h.byteIndex] at hj
    exact State.outbufAfter_read_of_ne (by omega) (by omega)
  · have hcb : u.completesByte = true := h.completesByte_iff.2 hlast
    rw [← h.byteIndex, ← hnext, State.outbufAfter_read, if_neg (by omega), if_pos ⟨hcb, rfl⟩]

/-- In a mode of two planes an accepted pixel packs its second field into plane 1. -/
theorem State.PackedAt.pixel_plane1 (h : s.PackedAt codes y x u) (hidx : u.byteIndex < u.planeBytes)
    (hp : s.mode.romPlanes = 2) (c : Code) :
    PlanePacked s.mode s.mode.romField1 (codes ++ [c]) (u.nextAcc1 c) fun j => (u.outbufAfter c).read (s.planeBytes + j) := by
  have ⟨hm, _⟩ := h.config
  have hplane : u.planeBytes = s.planeBytes := h.config.planeBytes
  have hnext : u.nextAcc1 c = shiftIn u.acc1 s.mode.romFb (s.mode.romField1 c) := by rw [State.nextAcc1, hm, if_pos hp]
  rw [hnext]
  refine (h.plane1 hp).snoc (fun j hj => ?_) fun hlast => ?_
  · rw [← h.byteIndex] at hj
    exact State.outbufAfter_read_of_ne (by omega) (by omega)
  · have hcb : u.completesByte = true := h.completesByte_iff.2 hlast
    rw [← h.byteIndex, ← hnext, State.outbufAfter_read, if_pos ⟨hcb, hm ▸ hp, by rw [hplane]⟩]

/-- A PIXEL whose key matches is packed (R180). -/
theorem State.PackedAt.pixel (h : s.PackedAt codes y x u) (hy : y < s.height.toNat) (hx : x < s.width.toNat) {d : Word}
    {c : Code} (hc : s.classify (pixelKey d) = some c) :
    ∃ t, exec (.wrPixel d) u = .next t ∧ s.PackedAt (codes ++ [c]) y (x + 1) t := by
  have hyne := h.y_ne_height hy
  have hxne := h.x_ne_width hx
  have hidx : u.byteIndex < u.planeBytes := h.inv.byteIndex_lt h.busy hyne hxne
  have hr := h.inv.writer_inside h.busy hyne hxne
  have haccept : exec (.wrPixel d) u = u.acceptPixel c :=
    exec_wrPixel_accepted h.busy hyne hxne ((h.config.classify _).trans hc)
  exact ⟨_, haccept.trans (State.acceptPixel_next c fun _ => hr), {
    busy := h.busy
    inv := h.inv.pixel h.busy hyne hxne c fun _ => hr
    config := h.config
    row := h.row
    column := (Dim.toNat_add_one (h.inv.x_lt_width h.busy hxne)).trans (congrArg (· + 1) h.column)
    count := by rw [List.length_append, h.count]; rfl
    plane0 := h.pixel_plane0 hidx c
    plane1 := fun hp => h.pixel_plane1 hidx hp c }⟩

/-- ROW_END at the end of a row goes to the start of the next one: no byte is unfinished there (R190). -/
theorem State.PackedAt.rowEnd (h : s.PackedAt codes y s.width.toNat u) (hy : y < s.height.toNat) (d : Word) :
    ∃ t, exec (.wrRowEnd d) u = .next t ∧ s.PackedAt codes (y + 1) 0 t := by
  obtain ⟨_, hw, _⟩ := h.config
  have hyne := h.y_ne_height hy
  have hx : u.x = u.width := BitVec.eq_of_toNat_eq (h.column.trans (congrArg _ hw.symm))
  have hcount : codes.length = (y + 1) * s.width.toNat := by rw [h.count, Nat.add_one_mul]
  have hend : codes.length % s.mode.romPack = 0 := by
    rw [hcount, Nat.mul_mod, h.width_mod, Nat.mul_zero, Nat.zero_mod]
  exact ⟨_, exec_rowEnd_accepted h.busy hyne hx d, {
    busy := h.busy
    inv := h.inv.endRow h.busy hyne
    config := h.config
    row := (Dim.toNat_add_one (h.inv.y_lt_height h.busy hyne)).trans (congrArg (· + 1) h.row)
    column := rfl
    count := hcount
    plane0 := h.plane0.with_acc hend _
    plane1 := fun hp => (h.plane1 hp).with_acc hend _ }⟩

end PackedAt

/-- An accepted START: nothing is packed yet (R131). -/
theorem State.PackedAt.start {s u : State} (hacc : u.acceptsFrame) (hconf : s.SameConfig u) :
    s.PackedAt [] 0 0 u.startFrame := by
  rw [State.startFrame_of_accepts hacc]
  exact {
    busy := rfl
    inv := .opened hacc
    config := hconf
    row := rfl
    column := rfl
    count := by rw [List.length_nil, Nat.zero_mul]
    plane0 := .nil ..
    plane1 := fun _ => .nil .. }

/-- The frame that `s` configures is complete in `t`: each plane holds the bytes of `codes`, and what follows is 0x00. -/
structure State.FramePacked (s : State) (codes : List Code) (t : State) : Prop where
  done : t.frame = .done
  length : t.outLen.toNat = s.frameBytes
  plane0 : ∀ j < codes.length / s.mode.romPack,
    t.outbuf.read j = packedCodes s.mode.romFb s.mode.romField0 (byteCodes s.mode.romPack codes j)
  plane1 : s.mode.romPlanes = 2 → ∀ j < codes.length / s.mode.romPack,
    t.outbuf.read (s.planeBytes + j) = packedCodes s.mode.romFb s.mode.romField1 (byteCodes s.mode.romPack codes j)
  tail : ∀ a, s.frameBytes ≤ a → t.outbuf.read a = 0

/-- FRAME_END after the last row completes the frame (R195). -/
theorem State.PackedAt.frameEnd {s u : State} {codes : List Code} (h : s.PackedAt codes s.height.toNat 0 u) (d : Word) :
    ∃ t, exec (.wrFrameEnd d) u = .next t ∧ s.FramePacked codes t := by
  obtain ⟨_, _, hh, _⟩ := h.config
  have hy : u.y = u.height := BitVec.eq_of_toNat_eq (h.row.trans (congrArg _ hh.symm))
  have hlen : u.outLen.toNat = s.frameBytes := (h.inv.busy_length h.busy).trans h.config.frameBytes
  exact ⟨_, exec_frameEnd_accepted h.busy hy d, {
    done := rfl
    length := hlen
    plane0 := h.plane0.finished
    plane1 := fun hp => (h.plane1 hp).finished
    tail := fun a ha => h.inv.tail_zero (.inl h.busy) a (hlen.trans_le ha) }⟩

/-! ## Runs with reads between the writes (R76, R186) -/

theorem State.startFrame_port (s : State) : s.startFrame.port = s.port := by
  rcases s.startFrame_refuses_or_opens with ⟨_, k, e, _, _, eq⟩ | ⟨_, eq⟩ <;> rw [eq] <;> rfl

/-- No operation issues or takes an event. -/
theorem Effect.port {i : Instr} {s t : State} (e : Effect i s t) : t.port = s.port := by
  cases e with
  | starts => exact s.startFrame_port
  | _ => rfl

/-- What `P` says does not depend on the read response or the port. -/
def ReadBlind (P : State → Prop) : Prop :=
  ∀ (s : State) (r : Option Word) (p : List PortEvent), P s → P { s with rdata := r, port := p }

/-- From every state of `P`, the writes `ws` with reads in any places between them run to a state of `Q`. -/
def Drives (P : State → Prop) (ws : List PortEvent) (Q : State → Prop) : Prop :=
  ∀ (events : List PortEvent) (s : State), P s → s.port = events → events.filter (fun e => !e.isRead) = ws →
    ∃ t, Host.Core.run Sys2Proof.core events.length s = .next t ∧ Q t

/-- A read takes its event and keeps what does not depend on the response. -/
theorem ReadBlind.step_read {P : State → Prop} (hP : ReadBlind P) {s : State} {e : PortEvent} {rest : List PortEvent}
    (hs : P s) (hp : s.port = e :: rest) (he : e.isRead = true) : ∃ u, step s = .next u ∧ P u ∧ u.port = rest := by
  cases e with
  | reset => cases he
  | txn T =>
    obtain ⟨v, hv⟩ := readsHaveNoSideEffect s T rest hp (by simpa [PortEvent.isRead] using he)
    exact ⟨_, hv, hP s _ _ hs, rfl⟩

theorem Drives.nil {P : State → Prop} (hP : ReadBlind P) : Drives P [] P := by
  intro events
  induction events with
  | nil => exact fun s hs _ _ => ⟨s, rfl, hs⟩
  | cons e rest ih =>
    intro s hs hp hw
    have hread : ∀ a ∈ e :: rest, a.isRead = true := by simpa [List.filter_eq_nil_iff] using hw
    obtain ⟨u, hstep, hu, hport⟩ := hP.step_read hs hp (hread e (List.mem_cons_self ..))
    obtain ⟨t, hrun, ht⟩ := ih u hu hport (by simpa using fun a ha => hread a (List.mem_cons_of_mem _ ha))
    exact ⟨t, (run_next hstep _).trans hrun, ht⟩

/-- A write that leads from `P` to `Q`, and then the further writes. -/
theorem Drives.cons {P Q R : State → Prop} {i : Instr} {ws : List PortEvent} (hP : ReadBlind P)
    (hi : ∀ s, P s → ∃ t, exec i s = .next t ∧ Q t) (h : Drives Q ws R) : Drives P (.txn (encode i) :: ws) R := by
  intro events
  induction events with
  | nil => exact fun _ _ _ hw => by cases hw
  | cons e rest ih =>
    intro s hs hp hw
    by_cases he : e.isRead = true
    · obtain ⟨u, hstep, hu, hport⟩ := hP.step_read hs hp he
      obtain ⟨t, hrun, ht⟩ := ih u hu hport (by simpa [List.filter_cons, he] using hw)
      exact ⟨t, (run_next hstep _).trans hrun, ht⟩
    · obtain ⟨rfl, hrest⟩ : e = .txn (encode i) ∧ rest.filter (fun e => !e.isRead) = ws := by
        simpa [List.filter_cons, he] using hw
      obtain ⟨u, hexec, hu⟩ := hi _ (hP s none rest hs)
      have hstep : step s = .next u :=
        (stepRunsDecodedInstruction s _ rest i hp (decodeEncodeRoundTrip i)).trans hexec
      obtain ⟨t, hrun, ht⟩ := h rest u hu (exec_effect hexec).port hrest
      exact ⟨t, (run_next hstep _).trans hrun, ht⟩

theorem State.PackedAt.readBlind {s : State} {codes : List Code} {y x : Nat} : ReadBlind (s.PackedAt codes y x) :=
  fun u r p h => { h with inv := h.inv.with_unread u.dropped u.inten r p }

theorem State.FramePacked.readBlind {s : State} {codes : List Code} : ReadBlind (s.FramePacked codes) :=
  fun _ _ _ h => { h with }

/-! ## The image -/

/-- The code of a pixel's DATA, where it matches (R186). -/
def State.codeOf (s : State) (d : Word) : Code := (s.classify (pixelKey d)).getD 0

theorem State.classify_eq_some_codeOf {s : State} {d : Word} (h : s.classify (pixelKey d) ≠ none) :
    s.classify (pixelKey d) = some (s.codeOf d) := by
  obtain ⟨c, hc⟩ := Option.ne_none_iff_exists'.1 h
  rw [State.codeOf, hc]
  rfl

/-- The codes of the image, row after row. -/
def State.imageCodes (s : State) (image : List (List Word)) : List Code := image.flatten.map s.codeOf

/-- The pixels of a row, from column `x` on. -/
theorem drives_pixels {s : State} {Q : State → Prop} {y : Nat} {ws : List PortEvent} (hy : y < s.height.toNat)
    (row : List Word) (hrow : ∀ d ∈ row, s.classify (pixelKey d) ≠ none) : ∀ (codes : List Code) (x : Nat),
    x + row.length = s.width.toNat → Drives (s.PackedAt (codes ++ row.map s.codeOf) y s.width.toNat) ws Q →
    Drives (s.PackedAt codes y x) (row.map (fun d => .txn (encode (.wrPixel d))) ++ ws) Q := by
  induction row with
  | nil =>
    intro codes x hx h
    obtain rfl : x = s.width.toNat := hx
    simpa using h
  | cons d row ih =>
    intro codes x hx h
    rw [List.length_cons] at hx
    refine .cons State.PackedAt.readBlind
      (fun u hu => hu.pixel hy (by omega) (State.classify_eq_some_codeOf (hrow d (List.mem_cons_self ..)))) ?_
    refine ih (fun e he => hrow e (List.mem_cons_of_mem _ he)) _ (x + 1) (by omega) ?_
    simpa using h

/-- The rows of an image, from row `y` on. -/
theorem drives_rows {s : State} {Q : State → Prop} {ws : List PortEvent} (rows : List (List Word))
    (hrows : ∀ row ∈ rows, row.length = s.width.toNat ∧ ∀ d ∈ row, s.classify (pixelKey d) ≠ none) :
    ∀ (codes : List Code) (y : Nat), y + rows.length = s.height.toNat →
    Drives (s.PackedAt (codes ++ s.imageCodes rows) s.height.toNat 0) ws Q →
    Drives (s.PackedAt codes y 0) (rows.flatMap rowEvents ++ ws) Q := by
  induction rows with
  | nil =>
    intro codes y hy h
    obtain rfl : y = s.height.toNat := hy
    simpa [State.imageCodes] using h
  | cons row rows ih =>
    intro codes y hy h
    rw [List.length_cons] at hy
    obtain ⟨hlen, hrow⟩ := hrows row (List.mem_cons_self ..)
    rw [List.flatMap_cons, rowEvents, List.append_assoc, List.append_assoc]
    refine drives_pixels (by omega) row hrow codes 0 (by omega) ?_
    refine .cons State.PackedAt.readBlind (fun u hu => hu.rowEnd (by omega) 0) ?_
    refine ih (fun r hr => hrows r (List.mem_cons_of_mem _ hr)) _ (y + 1) (by omega) ?_
    simpa [State.imageCodes] using h

/-- START, the rows and FRAME_END of an image that matches, from a state of the same configuration whose START is accepted. -/
theorem drives_frame {s : State} {image : List (List Word)} (himage : s.imageMatches image) :
    Drives (fun u => u.acceptsFrame ∧ s.SameConfig u) (frameEvents image) (s.FramePacked (s.imageCodes image)) := by
  obtain ⟨hheight, hrows⟩ := himage
  refine .cons (fun _ _ _ h => h) (fun u ⟨hacc, hconf⟩ => ⟨_, exec_start rfl rfl u, State.PackedAt.start hacc hconf⟩) ?_
  refine drives_rows image hrows [] 0 (by omega) ?_
  exact .cons State.PackedAt.readBlind (fun u hu => hu.frameEnd 0) (.nil State.FramePacked.readBlind)

/-! ## The packed bytes, pixel by pixel (R182-R184) -/

theorem getElem?_flatten_of_width {α : Type} {w x : Nat} {rows : List (List α)} (hw : ∀ row ∈ rows, row.length = w)
    (hx : x < w) {y : Nat} (hy : y < rows.length) (a : α) :
    rows.flatten[y * w + x]? = some ((rows.getD y []).getD x a) := by
  induction rows generalizing y with
  | nil => simp at hy
  | cons row rows ih =>
    have hrow : row.length = w := hw row (List.mem_cons_self ..)
    rw [List.flatten_cons]
    cases y with
    | zero =>
      rw [Nat.zero_mul, Nat.zero_add, List.getElem?_append_left (by omega), List.getD_cons_zero,
        List.getD_eq_getElem _ _ (by omega), List.getElem?_eq_getElem]
    | succ y =>
      have hskip : (y + 1) * w + x - row.length = y * w + x := by rw [Nat.add_one_mul]; omega
      rw [List.getElem?_append_right (by rw [Nat.add_one_mul]; omega), hskip, List.getD_cons_succ]
      exact ih (fun r hr => hw r (List.mem_cons_of_mem _ hr)) (Nat.lt_of_succ_lt_succ hy)

section Image

variable {s : State} {image : List (List Word)} (h : s.imageMatches image)
include h

theorem State.imageMatches.code_at {x y : Nat} (hx : x < s.width.toNat) (hy : y < s.height.toNat) :
    (s.imageCodes image)[y * s.width.toNat + x]? = some (s.codeAt image x y) := by
  obtain ⟨hheight, hrows⟩ := h
  rw [State.imageCodes, List.getElem?_map,
    getElem?_flatten_of_width (fun row hr => (hrows row hr).1) hx (hheight ▸ hy) 0]
  rfl

theorem State.imageMatches.codes_length : (s.imageCodes image).length = s.height.toNat * s.width.toNat := by
  obtain ⟨hheight, hrows⟩ := h
  have hlen : image.map List.length = List.replicate image.length s.width.toNat :=
    List.eq_replicate_iff.2 ⟨List.length_map .., fun n hn => by
      obtain ⟨row, hr, rfl⟩ := List.mem_map.1 hn
      exact (hrows row hr).1⟩
  rw [State.imageCodes, List.length_map, List.length_flatten, hlen, List.sum_replicate, smul_eq_mul, hheight]

theorem State.imageMatches.codeAt_lt {x y : Nat} (hx : x < s.width.toNat) (hy : y < s.height.toNat) :
    (s.codeAt image x y).toNat < s.mode.romN := by
  obtain ⟨d, hd, hc⟩ := List.mem_map.1 (List.mem_of_getElem? (h.code_at hx hy))
  obtain ⟨row, hr, hdr⟩ := List.mem_flatten.1 hd
  obtain ⟨_, hrows⟩ := h
  exact hc ▸ State.classify_lt (State.classify_eq_some_codeOf ((hrows row hr).2 d hdr))

/-- The byte that starts at column `x` lies in its plane, its pixels in the row, and its codes are theirs, first pixel first. -/
theorem State.imageMatches.byte_at (hw : s.width.toNat % s.mode.romPack = 0) {x y : Nat} (hx : x < s.width.toNat)
    (hy : y < s.height.toNat) (hstart : x % s.mode.romPack = 0) :
    (y * s.width.toNat + x) / s.mode.romPack < (s.imageCodes image).length / s.mode.romPack ∧
    x + s.mode.romPack ≤ s.width.toNat ∧
    byteCodes s.mode.romPack (s.imageCodes image) ((y * s.width.toNat + x) / s.mode.romPack) =
      (List.range s.mode.romPack).map fun i => s.codeAt image (x + i) y := by
  have hdvdw : s.mode.romPack ∣ s.width.toNat := Nat.dvd_of_mod_eq_zero hw
  have hdvdx : s.mode.romPack ∣ x := Nat.dvd_of_mod_eq_zero hstart
  have hbase : (y * s.width.toNat + x) / s.mode.romPack * s.mode.romPack = y * s.width.toNat + x :=
    Nat.div_mul_cancel (Nat.dvd_add (hdvdw.mul_left y) hdvdx)
  have hroom : s.mode.romPack ≤ s.width.toNat - x := Nat.le_of_dvd (by omega) (Nat.dvd_sub hdvdw hdvdx)
  have hlt : y * s.width.toNat + x < s.height.toNat * s.width.toNat :=
    calc y * s.width.toNat + x < (y + 1) * s.width.toNat := by rw [Nat.add_one_mul]; omega
      _ ≤ s.height.toNat * s.width.toNat := Nat.mul_le_mul_right _ hy
  refine ⟨?_, by omega, List.ext_getElem? fun i => ?_⟩
  · rw [h.codes_length]
    exact Nat.div_lt_div_of_lt_of_dvd (hdvdw.mul_left _) hlt
  · by_cases hi : i < s.mode.romPack
    · rw [byteCodes_getElem? hi, hbase, Nat.add_assoc, h.code_at (by omega) hy, List.getElem?_map, List.getElem?_range hi]
      rfl
    · rw [List.getElem?_eq_none (by rw [byteCodes, List.length_take]; omega),
        List.getElem?_eq_none (by rw [List.length_map, List.length_range]; omega)]

end Image

section FramePacked

variable {s t : State} {image : List (List Word)} (h : s.FramePacked (s.imageCodes image) t) (himage : s.imageMatches image)
  (hw : s.width.toNat % s.mode.romPack = 0)
include h himage hw

/-- In 7C and RWB4 a byte holds the nibbles of its two pixels (R182, R184). -/
theorem State.FramePacked.nibbles (hm : s.mode ≠ .rwb) {x y : Nat} (hx : x < s.width.toNat) (hy : y < s.height.toNat)
    (hstart : x % 2 = 0) : t.outbuf.read ((y * s.width.toNat + x) / 2) =
      (s.mode.nibbleOf (s.codeAt image x y) <<< 4) ||| s.mode.nibbleOf (s.codeAt image (x + 1) y) := by
  obtain ⟨hpack, _⟩ := Mode.romPack_romFb_of_ne_rwb hm
  obtain ⟨hlt, hroom, hcodes⟩ := himage.byte_at hw hx hy (hpack.symm ▸ hstart)
  rw [← hpack, h.plane0 _ hlt, hcodes, hpack]
  rw [hpack] at hroom
  have hnext : x + 1 < s.width.toNat := by omega
  exact shiftIn_nibbles hm (himage.codeAt_lt hx hy) (himage.codeAt_lt hnext hy) 0

/-- In RWB the byte of each plane holds the bits of its eight pixels, the first at bit 7 (R183). -/
theorem State.FramePacked.planeBits (hm : s.mode = .rwb) {x y : Nat} (hx : x < s.width.toNat) (hy : y < s.height.toNat)
    (hstart : x % 8 = 0) {j : Nat} (hj : j < 8) :
    (t.outbuf.read ((y * s.width.toNat + x) / 8)).getLsbD (7 - j) = bwBit (s.codeAt image (x + j) y) ∧
    (t.outbuf.read (s.height.toNat * s.width.toNat / 8 + (y * s.width.toNat + x) / 8)).getLsbD (7 - j) =
      redBit (s.codeAt image (x + j) y) := by
  have hpack : s.mode.romPack = 8 := by rw [hm]; rfl
  have hplane : s.planeBytes = s.height.toNat * s.width.toNat / 8 := by rw [State.planeBytes, hpack]
  obtain ⟨hlt, hroom, hcodes⟩ := himage.byte_at hw hx hy (hpack.symm ▸ hstart)
  have h0 := h.plane0 _ hlt
  have h1 := h.plane1 (by rw [hm]; rfl) _ hlt
  rw [hcodes, hpack, hm] at h0 h1
  rw [hpack] at hroom
  have fields : ∀ c ∈ (List.range 8).map (fun i => s.codeAt image (x + i) y),
      Mode.romField0 .rwb c = (BitVec.ofBool (bwBit c)).setWidth 4 ∧
      Mode.romField1 .rwb c = (BitVec.ofBool (redBit c)).setWidth 4 := fun c hc => by
    obtain ⟨i, hi, rfl⟩ := List.mem_map.1 hc
    have hi := List.mem_range.1 hi
    exact Mode.romFields_rwb _ (hm ▸ himage.codeAt_lt (by omega) hy)
  have hcode : ((List.range 8).map fun i => s.codeAt image (x + i) y)[j]? = some (s.codeAt image (x + j) y) := by
    rw [List.getElem?_map, List.getElem?_range hj]
    rfl
  rw [← hplane, h0, h1]
  exact ⟨foldl_shiftIn_eight (by simp) (fun c hc => (fields c hc).1) hcode 0,
    foldl_shiftIn_eight (by simp) (fun c hc => (fields c hc).2) hcode 0⟩

end FramePacked

/-- Settles O47: the events drive the block to the packed frame (`drives_frame`), whose bytes are read off pixel by pixel. -/
theorem framePacksWholeImage : Obligations.FramePacksWholeImage := by
  intro s image events hacc himage hevents
  obtain ⟨t, hrun, ht⟩ := drives_frame himage events { s with port := events } ⟨hacc, .refl s⟩ rfl hevents
  obtain ⟨_, hw, _⟩ := hacc
  exact ⟨t, hrun, ht.done, ht.length, fun hm y hy x hx hstart => ht.nibbles himage hw hm hx hy hstart,
    fun hm y hy x hx hstart j hj => ht.planeBits himage hw hm hx hy hstart hj, ht.tail⟩

end Sys2Proof.Machine
end

section
/-! PROOFS, 60_exceptions.md: errors are precise (R216), by the one error entry of R215. -/

namespace Sys2Proof.Machine

/-- Of the effects of a stream write in BUSY only a failed check enters ERROR: it is the error entry at X, Y (R214). -/
theorem Effect.raises_of_stream {i : Instr} {s t : State} (e : Effect i s t) (hi : i.isStream = true)
    (hs : s.frame = .busy) (ht : t.frame = .error) :
    ∃ k e rgb, k ≠ .none ∧ k.admits e = true ∧ (k ≠ .unknownColor → rgb = 0) ∧ t = s.raiseError k e s.x s.y rgb := by
  cases e with
  | fails _ _ k e rgb hk he hr => exact ⟨k, e, rgb, hk, he, hr, rfl⟩
  | starts d h => rw [h] at hi; cases hi
  | nothing | responds | drops | configures | enables | packs | endsRow => cases hs.symm.trans ht
  | aborts | endsFrame => cases ht

/-- A START that enters ERROR is the error entry at position 0 and colour 0 from the cleared bookkeeping (R131). -/
theorem State.startFrame_raises {s : State} (h : s.startFrame.frame = .error) :
    ∃ k e, k ≠ .none ∧ k.admits e = true ∧ s.startFrame = s.abortFrame.raiseError k e 0 0 0 := by
  rcases s.startFrame_refuses_or_opens with ⟨_, raised⟩ | ⟨_, opened⟩
  · exact raised
  · rw [opened] at h; cases h

/-- Settles O41: what enters ERROR is an error entry, from the state itself or, at a START, from the cleared one. -/
theorem errorsArePrecise : Obligations.ErrorsArePrecise := by
  refine ⟨fun s t i hi hs h ht => ?_, fun s t d ha hd h ht => ?_⟩
  · obtain ⟨k, e, rgb, hk, he, hr, rfl⟩ := (exec_effect h).raises_of_stream hi hs ht
    exact ⟨rfl, hk, he, hr⟩
  · cases (exec_start ha hd s).symm.trans h
    obtain ⟨k, e, hk, he, eq⟩ := State.startFrame_raises ht
    rw [eq]
    exact ⟨rfl, hk, he⟩

end Sys2Proof.Machine
end

section
/-! PROOFS, 70_reset_and_hazards.md: the idle step (R212) and the reset event (R240), in the model's form (log entries 2, 4 and 6). -/

namespace Sys2Proof.Machine

/-- A byte that no cell lists reads as the fill gives it (log entry 3). -/
@[simp] theorem Memory.read_unlisted (f : Fill) (a : Nat) : (⟨f, []⟩ : Memory).read a = f.byte a := rfl

/-- After a reset OUTBUF is nothing but the draw just taken, at every address (R240). -/
theorem State.applyReset_read (s : State) (a : Nat) : s.applyReset.outbuf.read a = Config.resetByte s.draws a := by
  rw [State.applyReset_outbuf, Memory.read_unlisted, Fill.byte]

/-- A reset event resets the state that has taken it off the port (R240; log entry 6). -/
theorem step_reset {s : State} {rest : List PortEvent} (h : s.port = .reset :: rest) :
    step s = .next (s.accept rest).applyReset := step_event h

/-- Settles O8: the port laws `step_nothing` and `step_reset`, and what the reset leaves in each field and byte. -/
theorem idleStepsAndResetEvents : Obligations.IdleStepsAndResetEvents := by
  refine ⟨fun s hidle => step_nothing hidle, fun s rest hreset =>
    ⟨(s.accept rest).applyReset, step_reset hreset, ?port, ?capacity, ?draws, ?response, ?bytes⟩⟩
  case port => rw [State.applyReset_port, State.accept_port]
  case capacity => rw [State.applyReset_outbufBytes, State.accept_outbufBytes]
  case draws => rw [State.applyReset_draws, State.accept_draws]
  case response => exact State.applyReset_rdata _
  case bytes => exact fun a => by rw [State.applyReset_read, State.accept_draws]

end Sys2Proof.Machine
end
